-- ==== Sys2Proof/Word.lean ====
section
/-! DEFINITION. The word type of the two links: one byte.
The FV612 has no register window (spec 00_scope.md); the only bit patterns that pass in or out of it
are the bytes of frames (R170).  Everything else the manual counts is a number and is a `Nat`. -/

namespace Sys2Proof

/-- One byte of a frame (R170: eight data bits). -/
abbrev Byte := BitVec 8

end Sys2Proof
end

