-- ==== Sys2Proof/Config.lean ====
section
/-! DEFINITION. What is fixed for the machine: the principal figures the manual gives as fixed
sizes, and the FREE VALUES, which the manual leaves open.  A free value is an opaque constant with no
body: nothing in Lean can evaluate it, so a statement that is proved holds whatever it is. -/

namespace Sys2Proof.Config

/-- Capacity of the front outgoing queue in frames (R173). -/
abbrev frontCapacity : Nat := 48
/-- Capacity of the back outgoing queue in frames (R173). -/
abbrev backCapacity : Nat := 24
/-- Largest payload of a frame in bytes (R170). -/
abbrev maxPayload : Nat := 64
/-- Result bytes that one REPLY frame holds (R181: results 0–60). -/
abbrev replyResults : Nat := 60
/-- Largest article number (R1, R23). -/
abbrev maxArticle : Nat := 999999999999
/-- Most entries of the Article Table (R3). -/
abbrev maxEntries : Nat := 2048
/-- Most referral records (R48). -/
abbrev maxReferrals : Nat := 4
/-- Most waiting items of the Referral List in all (R48). -/
abbrev maxWaiting : Nat := 8
/-- Most session records (R61). -/
abbrev maxSessions : Nat := 16
/-- Most accepted items of one session (R38). -/
abbrev maxAccepted : Nat := 9999
/-- Most orders of one lane queue (R119). -/
abbrev maxQueue : Nat := 6
/-- Volume by which a decided container without an entry copy is routed, in ml (R46). -/
abbrev decidedVolume : Nat := 3000
/-- Maximum of a count counter (R154), of the overflow record (R113) and of the items since bin-in
(R96). -/
abbrev maxCount : Nat := 99999999
/-- Maximum of a value counter (R154) and largest voucher number (R85). -/
abbrev maxValue : Nat := 9999999999
/-- Longest gap between two ANNOUNCE frames of one run, in ms (R160). -/
abbrev attachGap : Nat := 750
/-- Silence after which a station is lost, in ms (R161). -/
abbrev silenceTime : Nat := 1500

/-- Time of one bit on a line at 250 kbit/s, in µs (R170). -/
abbrev bitMicros : Nat := 4

/-- FREE VALUE (log entry 3).  The number 0 to 15 that a port draws at random at a collision (R172);
the argument is the count of draws made before, so each draw is a fresh value. -/
opaque backoffDraw : Nat → Fin 16

/-- FREE VALUE (log entry 4).  How the part index and the last-part mark of a REPLY share their one
byte (R181 gives them one byte, no rule gives the bits). -/
opaque partByte : Nat → Bool → Byte

/-- FREE VALUE (log entry 5).  What the part's own clock shows at the model's time `t` ms: the manual
calls the last item time "a time" (R61) and states no origin for it.  Used only where that time is
sent in the record form of READ SESSION (R76). -/
opaque clockReading : Nat → Nat

end Sys2Proof.Config
end

