-- ==== Sys2Proof/Syntax.lean ====
section
/-! DEFINITION. The commands of the block: one constructor of `Instr` per row of
spec/opcode_table.json.  A command is an event that reaches the part: a change on an input line, a
happening on one of the two links, the arrival of a frame, or the expiry of a timer (spec
00_scope.md, "Events").  Frames of stations, till bridge and lane drivers carry their source address
and their raw payload, because their owner's rule says what becomes of a payload of a wrong length or
with a wrong field.  COMMAND frames carry the command tag and the argument fields as numbers;
`Sys2Proof.Machine.commandOf` (Machine/Operands.lean) reads those from the bytes. -/

namespace Sys2Proof

/-- The two links (spec 00_scope.md, "The two links"). -/
inductive Link where
  | front | back
  deriving DecidableEq, Repr

/-- Why a port discards a complete frame (R171). -/
inductive DiscardCause where
  /-- payload length above 64 -/
  | badLength
  /-- the check does not match -/
  | badCheck
  /-- the destination is not 0 -/
  | badDestination
  /-- the source is not an address of that link other than 0 -/
  | badSource
  /-- the source may not send that kind on that link -/
  | badKind
  /-- a COMMAND too short to hold a command tag and a command code (log entry 12) -/
  | noCommandCode
  deriving DecidableEq, Repr

/-- The fields of an article entry as LOAD ARTICLE and an ENTRY answer carry them (R1, R175): raw
numbers, not yet checked. -/
structure RawEntry where
  number : Nat
  span : Nat
  kind : Nat
  material : Nat
  depositClass : Nat
  scheme : Nat
  producer : Nat
  own : Nat
  partner : Nat
  foreign : Nat
  check : Nat
  nominalMass : Nat
  massTolerance : Nat
  residue : Nat
  nominalHeight : Nat
  heightTolerance : Nat
  volume : Nat
  slots : Nat
  bottleNumber : Nat
  deriving DecidableEq, Repr

/-- The two parameters that the Stroke Budget takes itself (R146). -/
inductive StrokeParameter where
  | budget | window
  deriving DecidableEq, Repr

/-- The commands.  Operands named `tag` are the command tag of a COMMAND (R174); `src` is the source
address of a frame; `payload` its payload bytes. -/
inductive Instr where
  | hardwareReset
  | resetRelease
  | feedfltAssert
  | feedfltClear
  | frameGapTimeout (link : Link)
  | frameDiscard (link : Link) (cause : DiscardCause)
  | frameSendStart (link : Link)
  | sendCollision (link : Link)
  | backoffExpiry (link : Link)
  | frameSent (link : Link)
  | heldFramePlaced (link : Link)
  | announce (src : Nat) (payload : List Byte)
  | silenceExpiry (station : Nat)
  | itemReport (src : Nat) (payload : List Byte)
  | itemWithdraw (src : Nat) (payload : List Byte)
  | sessionClose (src : Nat) (payload : List Byte)
  | idleExpiry (session : Nat)
  | referralExpiry (number : Nat)
  | requestAccepted (src : Nat) (payload : List Byte)
  | voucherStatus (src : Nat) (payload : List Byte)
  | replyTimerExpiry
  | dropDone (src : Nat) (payload : List Byte)
  | dropExpiry (lane : Nat)
  | strokeRecordExpiry
  | laneReport (src : Nat) (payload : List Byte)
  | commandUnknown (tag : Byte) (code : Nat)
  | loadArticle (tag : Byte) (entry : RawEntry)
  | removeArticle (tag : Byte) (number span : Nat)
  | readArticleKey (tag : Byte) (number span : Nat)
  | readArticleLookup (tag : Byte) (number : Nat)
  | clearTable (tag : Byte)
  | loadKey (tag : Byte) (slot scheme producer : Nat)
  | clearKey (tag : Byte) (slot : Nat)
  | readKeys (tag : Byte)
  | setClassValue (tag : Byte) (cls value : Nat)
  | readClassValues (tag : Byte)
  | referralAnswerEntry (tag : Byte) (number : Nat) (entry : RawEntry)
  | referralAnswerDecide (tag : Byte) (number verdict cls route : Nat)
  | readReferrals (tag : Byte)
  | readSessionSummary (tag : Byte)
  | readSessionRecord (tag : Byte) (session : Nat)
  | readSessionLines (tag : Byte) (session index : Nat)
  | discardSession (tag : Byte) (session : Nat)
  | voucherControlResume (tag : Byte) (session : Nat)
  | voucherControlRestart (tag : Byte) (session : Nat)
  | voucherControlCancel (tag : Byte) (session : Nat)
  | voucherControlAbort (tag : Byte) (session : Nat)
  | readVoucher (tag : Byte)
  | setLane (tag : Byte) (lane kind route capacity factor warn : Nat)
  | laneGoOpen (tag : Byte) (lane : Nat)
  | laneGoDrain (tag : Byte) (lane : Nat)
  | laneGoClearFault (tag : Byte) (lane : Nat)
  | maskLane (tag : Byte) (lane mask : Nat)
  | overflowEmptied (tag : Byte)
  | readStatusStation (tag : Byte) (station : Nat)
  | readStatusLane (tag : Byte) (lane : Nat)
  | readBudget (tag : Byte)
  | readCounters (tag : Byte) (group : Nat)
  | readAndClear (tag : Byte) (group : Nat)
  | stationGoListen (tag : Byte) (station : Nat)
  | stationGoOperate (tag : Byte) (station : Nat)
  | stationGoPause (tag : Byte) (station : Nat)
  | stationGoOff (tag : Byte) (station : Nat)
  | setParameter (tag : Byte) (number value : Nat)
  | setParameterStroke (tag : Byte) (parameter : StrokeParameter) (value : Nat)
  | readParameters (tag : Byte)
  | cornerReset (tag : Byte)
  deriving DecidableEq, Repr

end Sys2Proof
end

