-- ==== Sys2Proof/WellFormed.lean ====
section
/-! DEFINITION. Which commands can exist at all: every operand fits the field of the frame that
carries it (R181, R182), every address is one of its link (R170), every timer names one of the
part's timers.  A well-formed command may still be refused or ignored by the part: that is meaning,
and stands in the machine. -/

namespace Sys2Proof

/-- The field widths of R182 hold this entry: each field of R1 fits the whole bytes that it takes. -/
def RawEntry.wf (e : RawEntry) : Bool :=
  e.number < 2 ^ 48 && e.span < 256 && e.kind < 256 && e.material < 256 && e.depositClass < 256 &&
  e.scheme < 256 && e.producer < 65536 && e.own < 256 && e.partner < 256 && e.foreign < 256 &&
  e.check < 256 && e.nominalMass < 65536 && e.massTolerance < 65536 && e.residue < 65536 &&
  e.nominalHeight < 65536 && e.heightTolerance < 256 && e.volume < 65536 && e.slots < 256 &&
  e.bottleNumber < 2 ^ 48

/-- A front-link source (R170, R171: an address of that link other than 0). -/
def frontSource (a : Nat) : Bool := (1 ≤ a && a ≤ 8) || a == 14 || a == 15

/-- A back-link source (R170). -/
def backSource (a : Nat) : Bool := 1 ≤ a && a ≤ 12

/-- A station number (R158). -/
def stationNumber (n : Nat) : Bool := 1 ≤ n && n ≤ 8

/-- A lane number of a sorting lane (R96). -/
def laneNumber (n : Nat) : Bool := 1 ≤ n && n ≤ 12

/-- A payload that a frame can hold (R170). -/
def payloadFits (p : List Byte) : Bool := p.length ≤ Config.maxPayload

/-- The command's operands fit the fields that carry them. -/
def Instr.wf : Instr → Bool
  | .hardwareReset | .resetRelease | .feedfltAssert | .feedfltClear => true
  | .frameGapTimeout _ | .frameDiscard _ _ | .frameSendStart _ | .sendCollision _ => true
  | .backoffExpiry _ | .frameSent _ | .heldFramePlaced _ => true
  | .announce a p | .itemReport a p | .itemWithdraw a p | .sessionClose a p =>
      stationNumber a && payloadFits p
  | .requestAccepted a p | .voucherStatus a p => frontSource a && payloadFits p
  | .dropDone a p | .laneReport a p => backSource a && payloadFits p
  | .silenceExpiry n => stationNumber n
  | .idleExpiry n => 1 ≤ n && n < 65536
  | .referralExpiry n => 1 ≤ n && n < 256
  | .replyTimerExpiry | .strokeRecordExpiry => true
  | .dropExpiry n => laneNumber n
  | .commandUnknown _ code => code < 256
  | .loadArticle _ e => e.wf
  | .removeArticle _ n sp | .readArticleKey _ n sp => n < 2 ^ 48 && sp < 256
  | .readArticleLookup _ n => n < 2 ^ 48
  | .clearTable _ | .readKeys _ | .readClassValues _ | .readReferrals _ => true
  | .loadKey _ slot scheme producer => slot < 256 && scheme < 256 && producer < 65536
  | .clearKey _ slot => slot < 256
  | .setClassValue _ c v => c < 256 && v < 65536
  | .referralAnswerEntry _ n e => n < 256 && e.wf
  | .referralAnswerDecide _ n v c r => n < 256 && v < 256 && c < 256 && r < 256
  | .readSessionSummary _ | .readVoucher _ | .overflowEmptied _ | .readBudget _ => true
  | .readSessionRecord _ n | .discardSession _ n => n < 65536
  | .readSessionLines _ n k => n < 65536 && k < 256
  | .voucherControlResume _ n | .voucherControlRestart _ n | .voucherControlCancel _ n
  | .voucherControlAbort _ n => n < 65536
  | .setLane _ l k r c f w => l < 256 && k < 256 && r < 256 && c < 65536 && f < 256 && w < 256
  | .laneGoOpen _ l | .laneGoDrain _ l | .laneGoClearFault _ l => l < 256
  | .maskLane _ l m => l < 256 && m < 256
  | .readStatusStation _ n | .readStatusLane _ n => n < 256
  | .readCounters _ g | .readAndClear _ g => g < 256
  | .stationGoListen _ n | .stationGoOperate _ n | .stationGoPause _ n | .stationGoOff _ n => n < 256
  | .setParameter _ n v => n < 256 && n != 7 && n != 8 && v < 2 ^ 24
  | .setParameterStroke _ .budget v => v < 256
  | .setParameterStroke _ .window v => v < 65536
  | .readParameters _ | .cornerReset _ => true

end Sys2Proof
end

