-- ==== Sys2Proof/Decode.lean ====
section
/-! DEFINITION. Decoding of table words.  No row of spec/opcode_table.json gives bits ("fields" is
empty in every row, and none has "fixed"): the commands of this block are events, not words.  So no
word spells a command.  The bytes of frames are read by `Sys2Proof.Machine.receive`
(Machine/Link.lean). -/

namespace Sys2Proof

/-- The command that a word of `nbits` bits spells by the table's bits: none, for every word. -/
def decodeTableWord (_nbits _w : Nat) : Option Instr := none

end Sys2Proof
end

