-- ==== Sys2Proof/Machine/State.lean ====
section
/-! DEFINITION. The state of the FV612 as plain data: every piece of state the spec names, in the
manual's own blocks, with its value after a hardware reset.  Where a field of the manual is present
in one state of its record only, the record's state is an inductive type that carries it. -/

namespace Sys2Proof.Machine

/-! ## Names of the manual (codes in R182) -/

/-- Kind of an intake station (R158). -/
inductive StationKind where
  | single | bulk | crate
  deriving DecidableEq, Repr

/-- Material of a container (R1); a signature UNKNOWN is an absent material (R23). -/
inductive Material where
  | pet | alu | steel | glass
  deriving DecidableEq, Repr

/-- Column of a scheme row (R149). -/
inductive Column where
  | pet | alu | steel | glass | crate
  deriving DecidableEq, Repr

/-- Span of an article entry (R1, R2). -/
inductive Span where
  | exact | tens | hundreds
  deriving DecidableEq, Repr

/-- Kind of an entry and of an item (R1). -/
inductive ItemKind where
  | container | crate
  deriving DecidableEq, Repr

/-- Check mode of an entry (R15). -/
inductive CheckMode where
  | opened | strict | refer | referOnFail | blocked
  deriving DecidableEq, Repr

/-- A set of rights, any subset of CREDIT, TAKE and REFILL (R1). -/
structure Rights where
  credit : Bool
  take : Bool
  refill : Bool
  deriving DecidableEq, Repr

/-- Reason of a RETURN verdict (section 2.9). -/
inductive ReturnReason where
  | noCode | material | shape | underweight | overweight
  | unknown | rights | blocked | referTimeout | referRefused | referLoop | referBusy
  | cornerFull | paused | busy | sessionFull | noSessionRoom | closed | reset
  deriving DecidableEq, Repr

/-- Verdict kind, a RETURN with its reason (R24). -/
inductive VerdictKind where
  | credit | take | returned (reason : ReturnReason) | hold
  deriving DecidableEq, Repr

/-- Decided verdict of a DECIDE answer, a CREDIT with its class (R54). -/
inductive Decided where
  | credit (cls : Fin 16) | take
  deriving DecidableEq, Repr

/-- Route class (R39). -/
inductive RouteClass where
  | pet | metal | glass | refill | crate
  deriving DecidableEq, Repr

/-- Disposition of a closed session (R61). -/
inductive Disposition where
  | voucher | donate
  deriving DecidableEq, Repr

/-- State of a session (section 4.2). -/
inductive SessionState where
  | opened | closing | queued | issuing | awaitPrint
  deriving DecidableEq, Repr

/-- Outcome of a session (R61). -/
inductive SessionOutcome where
  | issued | donated | nothing | cancelled
  deriving DecidableEq, Repr

/-- State of a station (section 10.2). -/
inductive StationState where
  | off | listening | standby | operating | paused | lost
  deriving DecidableEq, Repr

/-- Why a station was lost (R158). -/
inductive LossCause where
  | silent | kind
  deriving DecidableEq, Repr

/-- Cause of a STATION CHANGE notice (R166). -/
inductive ChangeCause where
  | attach | silent | kind
  deriving DecidableEq, Repr

/-- Cause of a REFERRAL ENDED notice (R53, R57, R58). -/
inductive EndedCause where
  | timeout | withdrawn | station
  deriving DecidableEq, Repr

/-- Phase of a voucher transfer (R79). -/
inductive Phase where
  | request | data | status
  deriving DecidableEq, Repr

/-- Why a transfer stopped; REFUSED_BY_TILL with the till outcome (R79). -/
inductive StopCause where
  | timeout | tag | length | marker | refusedByTill (outcome : Nat) | aborted | number
  deriving DecidableEq, Repr

/-- Kind of a lane's machine (R96). -/
inductive LaneKind where
  | compact | breaker | stack | loose
  deriving DecidableEq, Repr

/-- A state in which a lane drops orders, and the state to which REST and SWAP go back. -/
inductive RunState where
  | opened | draining
  deriving DecidableEq, Repr

/-- State of a lane (section 6.5).  REST carries its rest return.  SWAP carries the swap return:
OPEN or DRAINING where `rested` is false; where `rested` is true the swap return is REST and `back`
is the rest return kept beside it (R109). -/
inductive LaneState where
  | closed | opened | draining | rest (back : RunState) | swap (back : RunState) (rested : Bool)
  | fault
  deriving DecidableEq, Repr

/-- Thermal class of a lane's machine (R96). -/
inductive Thermal where
  | cool | normal | warm | hot | over
  deriving DecidableEq, Repr

/-- Result of a drop (R119); "none" is an absent result. -/
inductive DropResult where
  | pass | fail
  deriving DecidableEq, Repr

/-- Reply codes (R174). -/
inductive ReplyCode where
  | ok | badState | notIdle | tableFull | badValue | notFound | countersNotClear | belowFill
  | late | lateLoaded | notRunning
  deriving DecidableEq, Repr

/-! ## Article entries and keys -/

/-- The fields of an entry that only its kind has (R1). -/
inductive EntryBody where
  | container (material : Material) (nominalMass massTolerance residue volume : Nat)
  | crate (slots bottleNumber : Nat)
  deriving DecidableEq, Repr

/-- An article entry (R1); `number` is normalised to the span (R2). -/
structure Entry where
  number : Nat
  span : Span
  depositClass : Fin 16
  scheme : Nat
  producer : Nat
  own : Rights
  partner : Rights
  foreign : Rights
  check : CheckMode
  nominalHeight : Nat
  heightTolerance : Nat
  body : EntryBody
  deriving DecidableEq, Repr

/-- A scheme key (R12). -/
structure SchemeKey where
  scheme : Nat
  producer : Nat
  deriving DecidableEq, Repr

/-! ## Items in referral -/

/-- The bottle fields of a crate report (R23). -/
structure BottleFields where
  present : Nat
  foreign : Nat
  deriving DecidableEq, Repr

/-- An ITEM REPORT within its ranges (R23): `none` for an absent number or mass, for a signature
UNKNOWN, and for the bottle fields of a report that is no crate report. -/
structure Report where
  seq : Nat
  number : Option Nat
  mass : Option Nat
  height : Nat
  signature : Option Material
  bottles : Option BottleFields
  deriving DecidableEq, Repr

/-- A waiting item: its working record at the point where it was held (R48). -/
structure Waiting where
  station : Fin 8
  session : Nat
  report : Report
  bottle : Option Entry
  residue : Bool
  deriving DecidableEq, Repr

/-- Kind of a referral; a DECISION carries the entry snapshot (R48). -/
inductive ReferralKind where
  | miss | decision (snapshot : Entry)
  deriving DecidableEq, Repr

/-- A referral record (R48). -/
structure Referral where
  number : Nat
  kind : ReferralKind
  article : Nat
  expiry : Nat
  waiting : List Waiting
  deriving DecidableEq, Repr

/-! ## Sessions and vouchers -/

/-- A voucher line (R43). -/
structure VoucherLine where
  cls : Fin 16
  count : Nat
  value : Nat
  deriving DecidableEq, Repr

/-- A session record (R61), with the expiry of its idle timer while that runs (R64). -/
structure Session where
  number : Nat
  station : Fin 8
  state : SessionState
  cap : Nat
  credit : Nat
  accepted : Nat
  lines : List VoucherLine
  held : Nat
  disposition : Option Disposition
  issueTag : Option Nat
  voucherNumber : Option Nat
  outcome : Option SessionOutcome
  lastItem : Nat
  idleExpiry : Option Nat
  deriving DecidableEq, Repr

/-- The transfer record (R79): each state with the fields that are present in it.  `latest` is the
serial of the latest frame produced for the transfer (R82; log entry 8). -/
inductive Transfer where
  | idle
  | running (phase : Phase) (session tag : Nat) (expiry : Option Nat) (latest : Nat)
  | stopped (phase : Phase) (cause : StopCause) (session tag : Nat)
  deriving DecidableEq, Repr

/-! ## Lanes, pipelines, strokes -/

/-- A lane record (R96). -/
structure Lane where
  kind : LaneKind
  route : RouteClass
  capacity : Nat
  factor : Nat
  warn : Nat
  mask : Bool
  state : LaneState
  committed : Nat
  reserved : Nat
  nearlyFull : Bool
  thermal : Thermal
  binPresent : Bool
  fillAtRemoval : Nat
  itemsSince : Nat
  changed : Bool
  deriving DecidableEq, Repr

/-- The overflow record (R113). -/
structure Overflow where
  fill : Nat
  items : Nat
  high : Bool
  deriving DecidableEq, Repr

/-- A drop order (R119). -/
structure Order where
  handle : Nat
  fill : Nat
  kind : ItemKind
  station : Fin 8
  deriving DecidableEq, Repr

/-- The dropping position (R119): the order, its jam mark, its drop expiry while the drop timer runs,
and the serial of its DROP GO (R124; log entry 8). -/
structure Dropping where
  order : Order
  jam : Bool
  expiry : Option Nat
  go : Nat
  deriving DecidableEq, Repr

/-- A Drop Pipeline (R119); `request` is the stroke request, waiting or none. -/
structure Pipeline where
  queue : List Order
  staged : Option Order
  dropping : Option Dropping
  request : Bool
  last : Option DropResult
  beforeLast : Option DropResult
  deriving DecidableEq, Repr

/-- A stroke record (R137). -/
structure Stroke where
  time : Nat
  weight : Nat
  lane : Fin 12
  deriving DecidableEq, Repr

/-! ## Clearing counters -/

/-- The three counters of a cell (R149). -/
structure Cell where
  credited : Nat
  taken : Nat
  value : Nat
  deriving DecidableEq, Repr

/-- A scheme row: one cell per material column (R149). -/
structure Row where
  pet : Cell
  alu : Cell
  steel : Cell
  glass : Cell
  crate : Cell
  deriving DecidableEq, Repr

/-- The corner totals (R152). -/
structure Totals where
  issuedCount : Nat
  issuedValue : Nat
  donationCount : Nat
  donationValue : Nat
  cancelledCount : Nat
  cancelledValue : Nat
  capExcess : Nat
  resetDiscarded : Nat
  residueMarked : Nat
  foreignBottles : Nat
  overflowItems : Nat
  overflowFill : Nat
  deriving DecidableEq, Repr

/-! ## Stations and parameters -/

/-- A station record (R158). -/
structure Station where
  state : StationState
  kind : Option StationKind
  attachCount : Nat
  attachKind : Option StationKind
  lastAnnounce : Option Nat
  silenceExpiry : Option Nat
  lossCause : Option LossCause
  changed : Bool
  deriving DecidableEq, Repr

/-- The parameter set (R178). -/
structure Parameters where
  sessionCap : Nat
  idleTime : Nat
  idleDisposition : Disposition
  referralTimeout : Nat
  dropTimeout : Nat
  voucherTimeout : Nat
  budget : Nat
  window : Nat
  overflowCapacity : Nat
  deriving DecidableEq, Repr

/-! ## Outgoing frames -/

/-- The contents of a VERDICT (R24); `none` is a field sent as absent. -/
structure Verdict where
  seq : Nat
  kind : VerdictKind
  credit : Option Nat
  credited : Option Nat
  session : Option Nat
  running : Option Nat
  residue : Option Bool
  foreign : Option Nat
  deriving DecidableEq, Repr

/-- The contents of a SESSION RESULT (R72). -/
structure SessionResult where
  session : Nat
  outcome : Option SessionOutcome
  disposition : Option Disposition
  amount : Nat
  voucherNumber : Option Nat
  accepted : Nat
  lineCount : Nat
  deriving DecidableEq, Repr

/-- The contents of a NOTICE (R176), by kind, with the fields its owner's rule lists. -/
inductive Notice where
  /-- R52 -/
  | referral (number : Nat) (kind : ReferralKind) (article : Nat) (item : Waiting) (timeout : Nat)
  /-- R53, R57, R58 -/
  | referralEnded (number : Nat) (cause : EndedCause)
  /-- R87 -/
  | voucherStopped (session station amount tag : Nat) (phase : Phase) (cause : StopCause)
  /-- R100 -/
  | nearlyFull (lane committed reserved capacity : Nat)
  /-- R110 -/
  | binSwapped (lane fill items : Nat)
  /-- R114 -/
  | overflowHigh (fill items capacity : Nat)
  /-- R145 -/
  | feedFault (asserted : Bool) (sum : Nat)
  /-- R166 -/
  | stationChange (station : Nat) (left entered : StationState) (cause : ChangeCause)
      (kind announced : Option StationKind)
  deriving DecidableEq, Repr

/-- A frame that the part sends (R181), by kind, with its destination where the kind does not fix
it.  A REPLY holds its result bytes as they are sent. -/
inductive Frame where
  | verdict (station : Nat) (v : Verdict)
  | sessionResult (station : Nat) (r : SessionResult)
  | stationMode (station : Nat) (mode : StationState) (kind : Option StationKind)
  | voucherRequest (tag station session amount lineCount : Nat)
  | voucherLines (tag session index : Nat) (lines : List VoucherLine)
  | statusQuery (tag session : Nat)
  | reply (tag : Byte) (code : Nat) (result : ReplyCode) (part : Nat) (last : Bool)
      (results : List Byte)
  | notice (n : Notice)
  | dropOrder (lane handle : Nat) (kind : ItemKind) (fill station : Nat)
  | dropGo (lane handle : Nat)
  | laneMode (lane : Nat) (state : LaneState)
  deriving DecidableEq, Repr

/-- The link on which a frame is sent (R181). -/
def Frame.link : Frame → Link
  | .dropOrder _ _ _ _ _ | .dropGo _ _ | .laneMode _ _ => .back
  | .verdict _ _ | .sessionResult _ _ | .stationMode _ _ _ | .voucherRequest _ _ _ _ _
  | .voucherLines _ _ _ _ | .statusQuery _ _ | .reply _ _ _ _ _ _ | .notice _ => .front

/-- A produced frame with its serial, the model's own name for it (log entry 8). -/
structure Queued where
  serial : Nat
  frame : Frame
  deriving DecidableEq, Repr

/-- What a port's transmitter does (R172): nothing, sending the head of its queue, or waiting a
backoff of so many µs after a collision. -/
inductive Transmitter where
  | idle | sending | backoff (micros : Nat)
  deriving DecidableEq, Repr

/-- A port: its outgoing queue, the frames held for room, its transmitter, the bytes of the incoming
frame so far and the time of the last of them, whether the line has been told to have fallen idle since
the last byte on it, and the time of that byte, received or sent (R171, R172, R173; log entry 44). -/
structure Port where
  queue : List Queued
  held : List Queued
  transmitter : Transmitter
  incoming : List Byte
  lastByte : Nat
  idle : Bool
  lastLine : Nat
  deriving DecidableEq, Repr

/-! ## The state -/

/-- The state of the part.  `pending`, `now`, `serial` and `draws` are the model's own fields
(INVENTORY.md, "State"); every other field is the manual's. -/
structure State where
  pending : List Instr
  now : Nat
  serial : Nat
  draws : Nat
  resetAsserted : Bool
  feedLine : Bool
  front : Port
  back : Port
  params : Parameters
  articles : List Entry
  keys : Vector (Option SchemeKey) 4
  classValues : Vector Nat 16
  heldCounts : Vector Nat 8
  lastHandle : Nat
  referrals : List Referral
  lastReferral : Nat
  sessions : List Session
  lastSession : Nat
  awaiting : List Nat
  voucherQueue : List Nat
  transfer : Transfer
  tagCounter : Nat
  lanes : Vector Lane 12
  overflow : Overflow
  pipes : Vector Pipeline 12
  strokes : List Stroke
  pointer : Fin 12
  feedFault : Bool
  rows : Vector Row 5
  totals : Totals
  returned : Vector Nat 19
  stations : Vector Station 8
  deriving DecidableEq, Repr

/-- The reasons for which a step can stop with a fault: none.  The manual names no event that stops
the part, so this type has no constructor. -/
inductive Fault where
  deriving DecidableEq, Repr

/-- The reasons for which a step can be refused. -/
inductive Refusal where
  /-- Raised by `exec` for a command that has no meaning yet (no arm answers it now).  Safe: the
  machine stops where the part would go on. -/
  | notModelled (mnemonic : String)
  deriving DecidableEq, Repr

/-! ## Hardware reset values -/

/-- A port after reset (R173, R180), with the line idle (log entry 44). -/
def Port.reset : Port := ⟨[], [], .idle, [], 0, true, 0⟩

/-- The parameter set after reset (R178). -/
def Parameters.reset : Parameters := ⟨50000, 120, .voucher, 5000, 3000, 2000, 8, 4000, 1000⟩

/-- A lane record after reset (R117). -/
def Lane.reset : Lane :=
  { kind := .loose, route := .pet, capacity := 0, factor := 16, warn := 90, mask := false,
    state := .closed, committed := 0, reserved := 0, nearlyFull := false, thermal := .normal,
    binPresent := true, fillAtRemoval := 0, itemsSince := 0, changed := false }

/-- A pipeline after reset (R135). -/
def Pipeline.reset : Pipeline := ⟨[], none, none, false, none, none⟩

/-- A clear cell (R149). -/
def Cell.zero : Cell := ⟨0, 0, 0⟩

/-- A clear row (R149). -/
def Row.zero : Row := ⟨.zero, .zero, .zero, .zero, .zero⟩

/-- Clear corner totals (R152). -/
def Totals.zero : Totals := ⟨0, 0, 0, 0, 0, 0, 0, 0, 0, 0, 0, 0⟩

/-- A station record after reset (R168). -/
def Station.reset : Station := ⟨.off, none, 0, none, none, none, none, false⟩

/-- The machine right after a hardware reset (R22, R47, R60, R77, R95, R117, R135, R148, R157, R168,
R173, R178), with the FEEDFLT line clear (log entry 7) and the model's clock at 0 (log entry 1). -/
def State.reset : State :=
  { pending := [], now := 0, serial := 0, draws := 0, resetAsserted := false, feedLine := false,
    front := Port.reset, back := Port.reset, params := Parameters.reset,
    articles := [], keys := Vector.replicate 4 none, classValues := Vector.replicate 16 0,
    heldCounts := Vector.replicate 8 0, lastHandle := 0, referrals := [], lastReferral := 0,
    sessions := [], lastSession := 0, awaiting := [], voucherQueue := [], transfer := .idle,
    tagCounter := 0, lanes := Vector.replicate 12 Lane.reset, overflow := ⟨0, 0, false⟩,
    pipes := Vector.replicate 12 Pipeline.reset, strokes := [], pointer := 0, feedFault := false,
    rows := Vector.replicate 5 Row.zero, totals := Totals.zero,
    returned := Vector.replicate 19 0, stations := Vector.replicate 8 Station.reset }

end Sys2Proof.Machine
end

