-- ==== Sys2Proof/Machine/Operands.lean ====
section
/-! DEFINITION. Bytes and fields: the byte order of R170, the codes and widths of R182, and the
reading of the payloads and COMMAND arguments that reach the part (R175, R181). -/

namespace Sys2Proof.Machine

/-! ## Numbers in bytes (R170: most significant byte first) -/

/-- The low `n` bytes of a number, most significant first (R170). -/
def be : Nat → Nat → List Byte
  | 0, _ => []
  | n + 1, v => be n (v / 256) ++ [BitVec.ofNat 8 v]

/-- The number that bytes hold, most significant first (R170). -/
def unbe (bs : List Byte) : Nat := bs.foldl (fun a b => a * 256 + b.toNat) 0

/-- A field sent as absent: all ones (R182). -/
def absent (n : Nat) : List Byte := List.replicate n 0xFF#8

/-- A field of `n` bytes that may be absent (R182). -/
def optBe (n : Nat) (o : Option Nat) : List Byte :=
  match o with
  | some v => be n v
  | none => absent n

/-- A time in ms of no stated range: 4 bytes, held at the largest value (R182). -/
def msField (t : Nat) : List Byte := be 4 (min t 0xFFFFFFFF)

/-- The same where the time may be absent; the largest value leaves all ones to "absent"
(R182, log entry 15). -/
def optMs (o : Option Nat) : List Byte := optBe 4 (o.map fun t => min t 0xFFFFFFFE)

/-- clear 0, set 1 (R182). -/
def markByte (b : Bool) : List Byte := be 1 (cond b 1 0)

/-- Read numeric fields of the given widths; `none` where the bytes are too few or too many. -/
def fields : List Nat → List Byte → Option (List Nat)
  | [], [] => some []
  | [], _ :: _ => none
  | w :: ws, bs =>
    if bs.length < w then none else (fields ws (bs.drop w)).map (unbe (bs.take w) :: ·)

/-! ## Codes (R182) -/

def StationKind.code : StationKind → Nat
  | .single => 0 | .bulk => 1 | .crate => 2

def StationKind.ofCode : Nat → Option StationKind
  | 0 => some .single | 1 => some .bulk | 2 => some .crate | _ => none

def Material.code : Material → Nat
  | .pet => 0 | .alu => 1 | .steel => 2 | .glass => 3

def Material.ofCode : Nat → Option Material
  | 0 => some .pet | 1 => some .alu | 2 => some .steel | 3 => some .glass | _ => none

/-- Code of a material signature; UNKNOWN is 4 (R182). -/
def signatureCode : Option Material → Nat
  | some m => m.code
  | none => 4

/-- A material signature from its code: `none` for a code outside the five (R23). -/
def signatureOfCode (c : Nat) : Option (Option Material) :=
  if c = 4 then some none else (Material.ofCode c).map some

def Span.code : Span → Nat
  | .exact => 0 | .tens => 1 | .hundreds => 2

def Span.ofCode : Nat → Option Span
  | 0 => some .exact | 1 => some .tens | 2 => some .hundreds | _ => none

def ItemKind.code : ItemKind → Nat
  | .container => 0 | .crate => 1

def ItemKind.ofCode : Nat → Option ItemKind
  | 0 => some .container | 1 => some .crate | _ => none

def CheckMode.code : CheckMode → Nat
  | .opened => 0 | .strict => 1 | .refer => 2 | .referOnFail => 3 | .blocked => 4

def CheckMode.ofCode : Nat → Option CheckMode
  | 0 => some .opened | 1 => some .strict | 2 => some .refer | 3 => some .referOnFail
  | 4 => some .blocked | _ => none

/-- A rights triple in one byte: CREDIT bit 0, TAKE bit 1, REFILL bit 2 (R182). -/
def Rights.code (r : Rights) : Nat :=
  cond r.credit 1 0 + cond r.take 2 0 + cond r.refill 4 0

/-- A rights triple from its byte; `none` where it names a right outside the three (R4). -/
def Rights.ofCode (c : Nat) : Option Rights :=
  if c < 8 then some ⟨c % 2 == 1, c / 2 % 2 == 1, c / 4 % 2 == 1⟩ else none

/-- The codes of section 2.9. -/
def ReturnReason.code : ReturnReason → Nat
  | .noCode => 11 | .material => 12 | .shape => 13 | .underweight => 14 | .overweight => 15
  | .unknown => 21 | .rights => 22 | .blocked => 23 | .referTimeout => 24 | .referRefused => 25
  | .referLoop => 26 | .referBusy => 27
  | .cornerFull => 31 | .paused => 32 | .busy => 33 | .sessionFull => 34 | .noSessionRoom => 35
  | .closed => 36 | .reset => 37

def VerdictKind.code : VerdictKind → Nat
  | .credit => 0 | .take => 1 | .returned _ => 2 | .hold => 3

def RouteClass.code : RouteClass → Nat
  | .pet => 0 | .metal => 1 | .glass => 2 | .refill => 3 | .crate => 4

def RouteClass.ofCode : Nat → Option RouteClass
  | 0 => some .pet | 1 => some .metal | 2 => some .glass | 3 => some .refill | 4 => some .crate
  | _ => none

def Disposition.code : Disposition → Nat
  | .voucher => 0 | .donate => 1

def Disposition.ofCode : Nat → Option Disposition
  | 0 => some .voucher | 1 => some .donate | _ => none

def SessionState.code : SessionState → Nat
  | .opened => 0 | .closing => 1 | .queued => 2 | .issuing => 3 | .awaitPrint => 4

def SessionOutcome.code : SessionOutcome → Nat
  | .issued => 0 | .donated => 1 | .nothing => 2 | .cancelled => 3

def StationState.code : StationState → Nat
  | .off => 0 | .listening => 1 | .standby => 2 | .operating => 3 | .paused => 4 | .lost => 5

def LossCause.code : LossCause → Nat
  | .silent => 0 | .kind => 1

def ChangeCause.code : ChangeCause → Nat
  | .attach => 0 | .silent => 1 | .kind => 2

def EndedCause.code : EndedCause → Nat
  | .timeout => 0 | .withdrawn => 1 | .station => 2

def ReferralKind.code : ReferralKind → Nat
  | .miss => 0 | .decision _ => 1

def Phase.code : Phase → Nat
  | .request => 0 | .data => 1 | .status => 2

def StopCause.code : StopCause → Nat
  | .timeout => 0 | .tag => 1 | .length => 2 | .marker => 3 | .refusedByTill _ => 4 | .aborted => 5
  | .number => 6

/-- Code of the transfer state (R182). -/
def Transfer.code : Transfer → Nat
  | .idle => 0 | .running .request _ _ _ _ => 1 | .running .data _ _ _ _ => 2
  | .running .status _ _ _ _ => 3 | .stopped _ _ _ _ => 4

def LaneKind.code : LaneKind → Nat
  | .compact => 0 | .breaker => 1 | .stack => 2 | .loose => 3

def LaneKind.ofCode : Nat → Option LaneKind
  | 0 => some .compact | 1 => some .breaker | 2 => some .stack | 3 => some .loose | _ => none

def RunState.code : RunState → Nat
  | .opened => 1 | .draining => 2

def LaneState.code : LaneState → Nat
  | .closed => 0 | .opened => 1 | .draining => 2 | .rest _ => 3 | .swap _ _ => 4 | .fault => 5

/-- The rest return, where it is present (R96). -/
def LaneState.restReturn : LaneState → Option RunState
  | .rest b => some b
  | .swap b true => some b
  | _ => none

/-- Code of the swap return, where it is present (R96). -/
def LaneState.swapReturnCode : LaneState → Option Nat
  | .swap b false => some b.code
  | .swap _ true => some 3
  | _ => none

def Thermal.code : Thermal → Nat
  | .cool => 0 | .normal => 1 | .warm => 2 | .hot => 3 | .over => 4

def Thermal.ofCode : Nat → Option Thermal
  | 0 => some .cool | 1 => some .normal | 2 => some .warm | 3 => some .hot | 4 => some .over
  | _ => none

def DropResult.code : DropResult → Nat
  | .pass => 0 | .fail => 1

/-- Code of a result place, "none" being 2 (R182). -/
def resultCode : Option DropResult → Nat
  | some r => r.code
  | none => 2

/-- A mark from its code: clear 0, set 1 (R182); bin presence: present 0, absent 1. -/
def markOfCode : Nat → Option Bool
  | 0 => some false | 1 => some true | _ => none

/-- Reply codes (R174). -/
def ReplyCode.code : ReplyCode → Nat
  | .ok => 0 | .badState => 1 | .notIdle => 2 | .tableFull => 3 | .badValue => 4 | .notFound => 5
  | .countersNotClear => 6 | .belowFill => 7 | .late => 8 | .lateLoaded => 9 | .notRunning => 10

/-! ## Numbers of stations and lanes -/

/-- The station record that a station number names (R158). -/
def stationIx (n : Nat) : Option (Fin 8) :=
  if h : 1 ≤ n ∧ n ≤ 8 then some ⟨n - 1, by omega⟩ else none

/-- The lane record that a lane number names (R96). -/
def laneIx (n : Nat) : Option (Fin 12) :=
  if h : 1 ≤ n ∧ n ≤ 12 then some ⟨n - 1, by omega⟩ else none

/-- The slot that a slot number names (R12). -/
def slotIx (n : Nat) : Option (Fin 4) :=
  if h : 1 ≤ n ∧ n ≤ 4 then some ⟨n - 1, by omega⟩ else none

/-- The number of a station, its front-link address (R158). -/
def stationNo (i : Fin 8) : Nat := i.val + 1

/-- The number of a lane, its driver's back-link address (R96). -/
def laneNo (i : Fin 12) : Nat := i.val + 1

/-! ## Payloads that reach the part (R181) -/

/-- The fields of an ITEM REPORT within their ranges (R23): an article number above the largest is
taken as absent; a field out of range discards the report. -/
def makeReport (seq number mass height sig : Nat) (bottles : Option BottleFields) : Option Report :=
  match signatureOfCode sig with
  | none => none
  | some signature =>
    if (mass ≤ 4000 ∨ mass = 0xFFFF) ∧ height ≤ 600 ∧
        (∀ b ∈ bottles, b.present ≤ 30 ∧ b.foreign ≤ 30) then
      some { seq, number := if number ≤ Config.maxArticle then some number else none,
             mass := if mass = 0xFFFF then none else some mass, height, signature, bottles }
    else none

/-- The report of an ITEM REPORT payload, 12 or 14 bytes long (R23, R181). -/
def parseReport (p : List Byte) : Option Report :=
  match fields [1, 6, 2, 2, 1] p with
  | some [seq, number, mass, height, sig] => makeReport seq number mass height sig none
  | _ =>
    match fields [1, 6, 2, 2, 1, 1, 1] p with
    | some [seq, number, mass, height, sig, present, foreign] =>
      makeReport seq number mass height sig (some ⟨present, foreign⟩)
    | _ => none

/-- A payload of one byte (ANNOUNCE, ITEM WITHDRAW, SESSION CLOSE). -/
def oneByte : List Byte → Option Nat
  | [b] => some b.toNat
  | _ => none

/-- The tag of a REQUEST ACCEPTED; bytes after it are not taken (R181). -/
def parseTag : List Byte → Option Nat
  | a :: b :: _ => some (unbe [a, b])
  | _ => none

/-- Handle and result of a DROP DONE of 3 bytes (R133): the handle is not 0, the result PASS or
FAIL. -/
def parseDropDone (p : List Byte) : Option (Nat × DropResult) :=
  match fields [2, 1] p with
  | some [handle, 0] => if handle = 0 then none else some (handle, .pass)
  | some [handle, 1] => if handle = 0 then none else some (handle, .fail)
  | _ => none

/-- A LANE REPORT within its named values (R107). -/
structure LaneReport where
  thermal : Thermal
  binPresent : Bool
  jam : Bool
  deriving DecidableEq, Repr

/-- The three parts of a LANE REPORT of 3 bytes (R107). -/
def parseLaneReport (p : List Byte) : Option LaneReport :=
  match fields [1, 1, 1] p with
  | some [t, b, j] =>
    match Thermal.ofCode t, markOfCode b, markOfCode j with
    | some thermal, some binAbsent, some jam => some ⟨thermal, !binAbsent, jam⟩
    | _, _, _ => none
  | _ => none

/-! ## COMMAND arguments (R175) -/

/-- Widths of the fields of an article entry in the order of R1 (R175, R182; fields that may be absent
take room for one value more, log entry 15). -/
def entryWidths : List Nat := [6, 1, 1, 1, 1, 1, 2, 1, 1, 1, 1, 2, 2, 2, 2, 1, 2, 1, 6]

/-- The fields of a LOAD ARTICLE or of an ENTRY answer. -/
def parseEntry (args : List Byte) : Option RawEntry :=
  match fields entryWidths args with
  | some [number, span, kind, material, depositClass, scheme, producer, own, partner, foreign, check,
      nominalMass, massTolerance, residue, nominalHeight, heightTolerance, volume, slots,
      bottleNumber] =>
    some { number, span, kind, material, depositClass, scheme, producer, own, partner, foreign, check,
           nominalMass, massTolerance, residue, nominalHeight, heightTolerance, volume, slots,
           bottleNumber }
  | _ => none

/-- Width of the value of a parameter (R178, R182), for the parameters that there are. -/
def parameterWidth : Nat → Option Nat
  | 1 => some 3 | 2 => some 2 | 3 => some 1 | 4 => some 2 | 5 => some 2 | 6 => some 2 | 7 => some 1
  | 8 => some 2 | 9 => some 2 | _ => none

/-- The command of a SET PARAMETER with this parameter number and these value bytes. -/
def setParameterOf (tag : Byte) (number : Nat) (value : List Byte) : Option Instr :=
  match parameterWidth number with
  | none => some (.setParameter tag number (unbe value))
  | some w =>
    if value.length = w then
      match number with
      | 7 => some (.setParameterStroke tag .budget (unbe value))
      | 8 => some (.setParameterStroke tag .window (unbe value))
      | n => some (.setParameter tag n (unbe value))
    else none

/-- The commands whose arguments begin with a choice, a form, an answer kind or a target class (R175),
by code, choice and the argument bytes after it. -/
def choiceCommandOf (tag : Byte) (code choice : Nat) (args : List Byte) : Option Instr :=
  match code, choice with
  | 3, 0 =>
    match fields [6, 1] args with | some [n, sp] => some (.readArticleKey tag n sp) | _ => none
  | 3, 1 =>
    match fields [6] args with | some [n] => some (.readArticleLookup tag n) | _ => none
  | 10, 0 =>
    match args with
    | n :: rest => (parseEntry rest).map (.referralAnswerEntry tag n.toNat)
    | [] => none
  | 10, 1 =>
    match fields [1, 1, 1, 1] args with
    | some [n, v, c, r] => some (.referralAnswerDecide tag n v c r)
    | _ => none
  | 12, 0 => match args with | [] => some (.readSessionSummary tag) | _ => none
  | 12, 1 => match fields [2] args with | some [n] => some (.readSessionRecord tag n) | _ => none
  | 12, 2 =>
    match fields [2, 1] args with | some [n, k] => some (.readSessionLines tag n k) | _ => none
  | 14, 0 => match fields [2] args with | some [n] => some (.voucherControlResume tag n) | _ => none
  | 14, 1 => match fields [2] args with | some [n] => some (.voucherControlRestart tag n) | _ => none
  | 14, 2 => match fields [2] args with | some [n] => some (.voucherControlCancel tag n) | _ => none
  | 14, 3 => match fields [2] args with | some [n] => some (.voucherControlAbort tag n) | _ => none
  | 17, 0 => match fields [1] args with | some [n] => some (.laneGoOpen tag n) | _ => none
  | 17, 1 => match fields [1] args with | some [n] => some (.laneGoDrain tag n) | _ => none
  | 17, 2 => match fields [1] args with | some [n] => some (.laneGoClearFault tag n) | _ => none
  | 20, 0 => match fields [1] args with | some [n] => some (.readStatusStation tag n) | _ => none
  | 20, 1 => match fields [1] args with | some [n] => some (.readStatusLane tag n) | _ => none
  | 24, 0 => match fields [1] args with | some [n] => some (.stationGoListen tag n) | _ => none
  | 24, 1 => match fields [1] args with | some [n] => some (.stationGoOperate tag n) | _ => none
  | 24, 2 => match fields [1] args with | some [n] => some (.stationGoPause tag n) | _ => none
  | 24, 3 => match fields [1] args with | some [n] => some (.stationGoOff tag n) | _ => none
  | 25, n => setParameterOf tag n args
  | _, _ => none

/-- The commands whose arguments begin with no choice, by code (R175). -/
def plainCommandOf (tag : Byte) (code : Nat) (args : List Byte) : Option Instr :=
  match code with
  | 1 => (parseEntry args).map (.loadArticle tag)
  | 2 => match fields [6, 1] args with | some [n, sp] => some (.removeArticle tag n sp) | _ => none
  | 4 => match args with | [] => some (.clearTable tag) | _ => none
  | 5 =>
    match fields [1, 1, 2] args with
    | some [slot, scheme, producer] => some (.loadKey tag slot scheme producer)
    | _ => none
  | 6 => match fields [1] args with | some [slot] => some (.clearKey tag slot) | _ => none
  | 7 => match args with | [] => some (.readKeys tag) | _ => none
  | 8 => match fields [1, 2] args with | some [c, v] => some (.setClassValue tag c v) | _ => none
  | 9 => match args with | [] => some (.readClassValues tag) | _ => none
  | 11 => match args with | [] => some (.readReferrals tag) | _ => none
  | 13 => match fields [2] args with | some [n] => some (.discardSession tag n) | _ => none
  | 15 => match args with | [] => some (.readVoucher tag) | _ => none
  | 16 =>
    match fields [1, 1, 1, 2, 1, 1] args with
    | some [l, k, r, c, f, w] => some (.setLane tag l k r c f w)
    | _ => none
  | 18 => match fields [1, 1] args with | some [l, m] => some (.maskLane tag l m) | _ => none
  | 19 => match args with | [] => some (.overflowEmptied tag) | _ => none
  | 21 => match args with | [] => some (.readBudget tag) | _ => none
  | 22 => match fields [1] args with | some [g] => some (.readCounters tag g) | _ => none
  | 23 => match fields [1] args with | some [g] => some (.readAndClear tag g) | _ => none
  | 26 => match args with | [] => some (.readParameters tag) | _ => none
  | 27 => match args with | [] => some (.cornerReset tag) | _ => none
  | _ => none

/-- The command codes whose arguments begin with a choice (R175). -/
def hasChoice (code : Nat) : Bool :=
  code == 3 || code == 10 || code == 12 || code == 14 || code == 17 || code == 20 || code == 24 ||
  code == 25

/-- The command of a COMMAND's tag, code and argument bytes (R174, R175).  A code that names no
command, arguments too short or too long for their command, and a choice that names none are all
answered BAD_VALUE with no change, which is the meaning of COMMAND_UNKNOWN (log entry 13). -/
def commandOf (tag : Byte) (code : Nat) (args : List Byte) : Instr :=
  let found :=
    if hasChoice code then
      match args with
      | c :: rest => choiceCommandOf tag code c.toNat rest
      | [] => none
    else plainCommandOf tag code args
  found.getD (.commandUnknown tag code)

end Sys2Proof.Machine
end

