-- ==== Sys2Proof/Machine/Frames.lean ====
section
/-! DEFINITION. The frames the part sends, in bytes: kinds, destinations and payload layouts (R181),
the coding of fields (R182) and the check (R170). -/

namespace Sys2Proof.Machine

/-- Kind byte (R181). -/
def Frame.kindCode : Frame → Nat
  | .verdict _ _ => 0x11
  | .sessionResult _ _ => 0x12
  | .stationMode _ _ _ => 0x13
  | .voucherRequest _ _ _ _ _ => 0x21
  | .voucherLines _ _ _ _ => 0x22
  | .statusQuery _ _ => 0x23
  | .reply _ _ _ _ _ _ => 0x32
  | .notice _ => 0x33
  | .dropOrder _ _ _ _ _ => 0x41
  | .dropGo _ _ => 0x42
  | .laneMode _ _ => 0x43

/-- Destination address (R170, R181). -/
def Frame.destination : Frame → Nat
  | .verdict a _ | .sessionResult a _ | .stationMode a _ _ => a
  | .voucherRequest _ _ _ _ _ | .voucherLines _ _ _ _ | .statusQuery _ _ => 14
  | .reply _ _ _ _ _ _ | .notice _ => 15
  | .dropOrder l _ _ _ _ | .dropGo l _ | .laneMode l _ => l

/-- Payload of a VERDICT, 16 bytes (R181). -/
def Verdict.bytes (v : Verdict) : List Byte :=
  let reason := match v.kind with | .returned r => r.code | _ => 0
  let presence := cond v.session.isSome 1 0 + cond v.residue.isSome 2 0 +
    cond (v.residue.getD false) 4 0 + cond v.foreign.isSome 8 0
  be 1 v.seq ++ be 1 v.kind.code ++ be 1 reason ++ be 1 presence ++ optBe 3 v.credit ++
  optBe 3 v.credited ++ optBe 2 v.session ++ optBe 3 v.running ++ optBe 1 v.foreign

/-- Payload of a SESSION RESULT, 15 bytes (R181). -/
def SessionResult.bytes (r : SessionResult) : List Byte :=
  be 2 r.session ++ optBe 1 (r.outcome.map SessionOutcome.code) ++
  optBe 1 (r.disposition.map Disposition.code) ++ be 3 r.amount ++ optBe 5 r.voucherNumber ++
  be 2 r.accepted ++ be 1 r.lineCount

/-- A line of a VOUCHER LINES frame, 6 bytes: the high part of the value stands in the top byte of the
count field, the count is sent as at most 65,535 (section 11.7). -/
def VoucherLine.bytes (l : VoucherLine) : List Byte :=
  be 1 l.cls.val ++ be 1 (l.value / 65536) ++ be 2 (min l.count 65535) ++ be 2 (l.value % 65536)

/-- Till outcome of a stop: present for REFUSED_BY_TILL only (R79). -/
def StopCause.tillOutcome : StopCause → Option Nat
  | .refusedByTill c => some c
  | _ => none

/-- Number and span of an entry snapshot, absent for a MISS (R52, R59). -/
def ReferralKind.entryKey : ReferralKind → List Byte
  | .miss => absent 7
  | .decision e => be 6 e.number ++ be 1 e.span.code

/-- Notice code (R176). -/
def Notice.code : Notice → Nat
  | .referral _ _ _ _ _ => 1
  | .referralEnded _ _ => 2
  | .voucherStopped _ _ _ _ _ _ => 3
  | .nearlyFull _ _ _ _ => 4
  | .binSwapped _ _ _ => 5
  | .overflowHigh _ _ _ => 6
  | .feedFault _ _ => 7
  | .stationChange _ _ _ _ _ _ => 8

/-- Content of a NOTICE, the fields in the order of its owner's rule (R181, R182). -/
def Notice.content : Notice → List Byte
  | .referral number kind article w timeout =>
      be 1 number ++ be 1 kind.code ++ be 6 article ++ be 1 (stationNo w.station) ++
      be 1 w.report.seq ++ be 2 w.session ++ optBe 2 w.report.mass ++ be 2 w.report.height ++
      be 1 (signatureCode w.report.signature) ++
      optBe 1 (w.report.bottles.map BottleFields.present) ++
      optBe 1 (w.report.bottles.map BottleFields.foreign) ++ kind.entryKey ++
      (match kind with | .miss => absent 1 | .decision _ => markByte w.residue) ++ be 2 timeout
  | .referralEnded number cause => be 1 number ++ be 1 cause.code
  | .voucherStopped session station amount tag phase cause =>
      be 2 session ++ be 1 station ++ be 3 amount ++ be 2 tag ++ be 1 phase.code ++
      be 1 cause.code ++ optBe 2 cause.tillOutcome
  | .nearlyFull lane committed reserved capacity =>
      be 1 lane ++ be 2 committed ++ be 2 reserved ++ be 2 capacity
  | .binSwapped lane fill items => be 1 lane ++ be 2 fill ++ be 4 items
  | .overflowHigh fill items capacity => be 4 fill ++ be 4 items ++ be 2 capacity
  | .feedFault asserted sum => markByte asserted ++ be 1 sum
  | .stationChange station left entered cause kind announced =>
      be 1 station ++ be 1 left.code ++ be 1 entered.code ++ be 1 cause.code ++
      optBe 1 (kind.map StationKind.code) ++ optBe 1 (announced.map StationKind.code)

/-- Payload of a frame (R181). -/
def Frame.payload : Frame → List Byte
  | .verdict _ v => v.bytes
  | .sessionResult _ r => r.bytes
  | .stationMode _ mode kind => be 1 mode.code ++ optBe 1 (kind.map StationKind.code)
  | .voucherRequest tag station session amount n =>
      be 2 tag ++ be 1 station ++ be 2 session ++ be 3 amount ++ be 1 n
  | .voucherLines tag session index lines =>
      be 2 tag ++ be 2 session ++ be 1 index ++ be 1 lines.length ++ lines.flatMap VoucherLine.bytes
  | .statusQuery tag session => be 2 tag ++ be 2 session
  | .reply tag code result part last results =>
      [tag] ++ be 1 code ++ be 1 result.code ++ [Config.partByte part last] ++ results
  | .notice n => be 1 n.code ++ n.content
  | .dropOrder _ handle kind fill station =>
      be 2 handle ++ be 1 kind.code ++ be 2 fill ++ be 1 station
  | .dropGo _ handle => be 2 handle
  | .laneMode _ st => be 1 st.code

/-- One bit step of the CRC-16 with generator x^16 + x^12 + x^5 + 1 (R170). -/
def crcBit (c : BitVec 16) : BitVec 16 :=
  if c.msb then (c <<< 1) ^^^ 0x1021#16 else c <<< 1

/-- One byte taken into the check, most significant bit first (R170). -/
def crcByte (c : BitVec 16) (b : Byte) : BitVec 16 :=
  let c := c ^^^ (b.zeroExtend 16 <<< 8)
  crcBit (crcBit (crcBit (crcBit (crcBit (crcBit (crcBit (crcBit c)))))))

/-- The check of a frame: the register starts at 0xFFFF, no final inversion (R170). -/
def crc (bs : List Byte) : Nat := (bs.foldl crcByte 0xFFFF#16).toNat

/-! ## The line (R170) -/

/-- A byte as bits on the line: one start bit, eight data bits with the least significant bit first, one
stop bit (R170; the levels of start and stop bit: log entry 42). -/
def lineBits (b : Byte) : List Bool :=
  [false, b.getLsbD 0, b.getLsbD 1, b.getLsbD 2, b.getLsbD 3, b.getLsbD 4, b.getLsbD 5, b.getLsbD 6,
    b.getLsbD 7, true]

/-- The byte that ten bits of the line carry: `none` without a start bit or a stop bit (R170). -/
def byteOfLine : List Bool → Option Byte
  | [false, b0, b1, b2, b3, b4, b5, b6, b7, true] =>
    some (BitVec.ofBoolListLE [b0, b1, b2, b3, b4, b5, b6, b7])
  | _ => none

/-- The bytes of a frame from destination to check (R170). -/
def Frame.bytes (f : Frame) : List Byte :=
  let body := be 1 f.destination ++ be 1 0 ++ be 1 f.kindCode ++ be 1 f.payload.length ++ f.payload
  body ++ be 2 (crc body)

/-- The bits of a frame on the line, in the order in which they are sent (R170). -/
def Frame.line (f : Frame) : List Bool := f.bytes.flatMap lineBits

/-- How long a frame takes on the line, in µs (R170). -/
def Frame.micros (f : Frame) : Nat := f.line.length * Config.bitMicros

end Sys2Proof.Machine
end

