-- ==== Sys2Proof/Machine/Ops.lean ====
section
/-! DEFINITION. The named operations that every block uses: producing a frame (R173), sending a REPLY
(R174), reading and changing one record, giving out numbers, and the condition under which the part
takes an event at all (R180). -/

namespace Sys2Proof.Machine

/-! ## Taking an event -/

/-- The part takes an event and its effect is `f`: always a next state.  While the RESET line is
asserted the ports take no frames and send nothing, and no timer runs (R180), so nothing happens. -/
def live (f : State → State) (s : State) : Host.Outcome State Fault Refusal :=
  .next (if s.resetAsserted then s else f s)

/-! ## Producing frames -/

/-- Capacity of a link's outgoing queue (R173). -/
def capacityOf : Link → Nat
  | .front => Config.frontCapacity
  | .back => Config.backCapacity

/-- A frame is placed at the tail of the queue where there is room and no frame is held before it;
otherwise it is held behind the frames already held (R173, log entry 9). -/
def Port.produce (capacity : Nat) (q : Queued) (p : Port) : Port :=
  if p.held = [] ∧ p.queue.length < capacity then { p with queue := p.queue ++ [q] }
  else { p with held := p.held ++ [q] }

/-- The port of a link. -/
def State.port (s : State) : Link → Port
  | .front => s.front
  | .back => s.back

/-- A gap of more than 1 ms has passed since the last byte of the port's incoming frame (R171). -/
def Port.gapPassed (now : Nat) (p : Port) : Bool := decide (p.lastByte + 1 < now)

/-- A gap of more than 1 ms ends the incoming frame: its bytes so far are discarded (R171). -/
def Port.dropGap (now : Nat) (p : Port) : Port :=
  if p.gapPassed now then { p with incoming := [] } else p

/-- A byte is on the line, received or sent: the line is not idle (R171). -/
def Port.carry (now : Nat) (p : Port) : Port := { p with idle := false, lastLine := now }

/-- The line has been idle since the last byte on it: it was told to have fallen idle, or more than 1 ms
has passed without a byte while the port does not send (R171, log entry 44). -/
def Port.lineIdle (now : Nat) (p : Port) : Bool :=
  p.idle || (p.transmitter != .sending && decide (p.lastLine + 1 < now))

/-- Change the port of a link. -/
def State.onPort (l : Link) (f : Port → Port) (s : State) : State :=
  { s with front := match l with | .front => f s.front | .back => s.front,
           back := match l with | .front => s.back | .back => f s.back }

/-- A block produces a frame: it gets the next serial and goes to its link's port (R173). -/
def State.place (f : Frame) (s : State) : State :=
  { s with
    serial := s.serial + 1
    front := match f.link with
      | .front => s.front.produce Config.frontCapacity ⟨s.serial + 1, f⟩
      | .back => s.front
    back := match f.link with
      | .front => s.back
      | .back => s.back.produce Config.backCapacity ⟨s.serial + 1, f⟩ }

/-- Produce several frames in order. -/
def State.placeAll (fs : List Frame) (s : State) : State := fs.foldl (fun s f => s.place f) s

/-- A NOTICE to address 15 (R176). -/
def State.notify (n : Notice) (s : State) : State := s.place (.notice n)

/-- Cut result bytes into the parts of a series, each of at most 60 bytes, at least one part (R174,
R181, log entry 17). -/
def resultParts (results : List Byte) : List (List Byte) :=
  (List.range (max 1 ((results.length + 59) / Config.replyResults))).map fun k =>
    (results.drop (Config.replyResults * k)).take Config.replyResults

/-- The frames of a REPLY: part indexes from 1, the last part marked (R174). -/
def replyFrames (tag : Byte) (code : Nat) (result : ReplyCode) (results : List Byte) : List Frame :=
  let parts := resultParts results
  parts.zipIdx.map fun p => .reply tag code result (p.2 + 1) (p.2 + 1 == parts.length) p.1

/-- The Management Decoder places the REPLY to a command (R174). -/
def State.reply (tag : Byte) (code : Nat) (result : ReplyCode) (results : List Byte)
    (s : State) : State :=
  s.placeAll (replyFrames tag code result results)

/-- A refusal that carries no results: the REPLY is all that happens (R174: a refused command changes
no state). -/
def State.refuse (tag : Byte) (code : Nat) (result : ReplyCode) (s : State) : State :=
  s.reply tag code result []

/-! ## Records -/

def State.setLane (i : Fin 12) (l : Lane) (s : State) : State :=
  { s with lanes := s.lanes.set i.val l i.isLt }

def State.setPipe (i : Fin 12) (p : Pipeline) (s : State) : State :=
  { s with pipes := s.pipes.set i.val p i.isLt }

def State.setStation (i : Fin 8) (x : Station) (s : State) : State :=
  { s with stations := s.stations.set i.val x i.isLt }

def State.setHeld (i : Fin 8) (n : Nat) (s : State) : State :=
  { s with heldCounts := s.heldCounts.set i.val n i.isLt }

/-- The session record that holds a number (R61). -/
def State.session? (s : State) (n : Nat) : Option Session := s.sessions.find? (·.number == n)

/-- Change the session record that holds a number. -/
def State.onSession (n : Nat) (f : Session → Session) (s : State) : State :=
  { s with sessions := s.sessions.map fun x => if x.number = n then f x else x }

/-- Free a session record (R61). -/
def State.freeSession (n : Nat) (s : State) : State :=
  { s with sessions := s.sessions.filter (·.number != n),
           awaiting := s.awaiting.filter (· != n) }

/-- A session is its station's current session in OPEN and in CLOSING (section 4.2). -/
def Session.isCurrent (x : Session) : Bool := x.state == .opened || x.state == .closing

/-- The current session of a station (R61: at most one). -/
def State.current? (s : State) (st : Fin 8) : Option Session :=
  s.sessions.find? fun x => x.station == st && x.isCurrent

/-- The referral record that holds a number (R48). -/
def State.referral? (s : State) (n : Nat) : Option Referral := s.referrals.find? (·.number == n)

/-- Items waiting in the Referral List in all (R48). -/
def State.waitingItems (s : State) : List Waiting := s.referrals.flatMap Referral.waiting

/-! ## Numbers given in turn -/

/-- The number one above `n`, going from `top` back to 1. -/
def nextNumber (top n : Nat) : Nat := if n < top then n + 1 else 1

/-- The first number after `last`, in turn up to `top` and back to 1, that is not in use; `fuel` more
numbers are tried. -/
def firstFree (top : Nat) (used : List Nat) : Nat → Nat → Nat
  | 0, last => nextNumber top last
  | fuel + 1, last =>
    let n := nextNumber top last
    if used.contains n then firstFree top used fuel n else n

/-- The number that a block gives next (R26, R49, R62): with `k` numbers in use, one of the next `k + 1`
is free. -/
def freshNumber (top : Nat) (used : List Nat) (last : Nat) : Nat :=
  firstFree top used used.length last

/-! ## Parts of one record -/

/-- All lanes, lowest number first. -/
def allLanes : List (Fin 12) := [0, 1, 2, 3, 4, 5, 6, 7, 8, 9, 10, 11]

/-- All stations, lowest number first. -/
def allStations : List (Fin 8) := [0, 1, 2, 3, 4, 5, 6, 7]

/-- The orders that stand in a pipeline's positions: dropping, staged, then the queue from its oldest
(R119). -/
def Pipeline.orders (p : Pipeline) : List Order :=
  (p.dropping.map Dropping.order).toList ++ p.staged.toList ++ p.queue

/-- The pipeline holds no order (R104). -/
def Pipeline.isEmpty (p : Pipeline) : Bool :=
  p.queue.isEmpty && p.staged.isNone && p.dropping.isNone

/-- The handles that stand in the positions of all lanes (R26, R120). -/
def State.handles (s : State) : List Nat :=
  allLanes.flatMap fun i => (s.pipes[i]).orders.map Order.handle

/-- A lane in OPEN or DRAINING drops orders (R122, R123). -/
def LaneState.runs : LaneState → Bool
  | .opened | .draining => true
  | .closed | .rest _ | .swap _ _ | .fault => false

/-- The lane state of a run state. -/
def RunState.laneState : RunState → LaneState
  | .opened => .opened
  | .draining => .draining

/-- A lane's remaining room (R101). -/
def Lane.room (l : Lane) : Nat := l.capacity - l.committed - l.reserved

/-- The sum of the stroke record list (R137). -/
def State.strokeSum (s : State) : Nat := (s.strokes.map Stroke.weight).sum

end Sys2Proof.Machine
end

