-- ==== Sys2Proof/Machine/Flags.lean ====
section
/-! DEFINITION. Counters, marks and flags: the clearing counters with their saturation (R149 to R154),
the nearly-full mark (R100), the overflow high mark (R114) and the changed flags (R116, R167). -/

namespace Sys2Proof.Machine

/-! ## Saturating counters (R154) -/

/-- A rise of a count counter, which holds at its maximum (R154). -/
def riseCount (x d : Nat) : Nat := min (x + d) Config.maxCount

/-- A rise of a value counter, which holds at its maximum (R154). -/
def riseValue (x d : Nat) : Nat := min (x + d) Config.maxValue

/-! ## Scheme rows -/

/-- The column of a material (R150). -/
def Material.column : Material → Column
  | .pet => .pet | .alu => .alu | .steel => .steel | .glass => .glass

def Row.get (r : Row) : Column → Cell
  | .pet => r.pet | .alu => r.alu | .steel => r.steel | .glass => r.glass | .crate => r.crate

def Row.set (r : Row) (c : Column) (x : Cell) : Row :=
  match c with
  | .pet => { r with pet := x }
  | .alu => { r with alu := x }
  | .steel => { r with steel := x }
  | .glass => { r with glass := x }
  | .crate => { r with crate := x }

/-- A row is clear when all fifteen counters hold 0 (R149). -/
def Row.isClear (r : Row) : Bool := r == Row.zero

/-- The credited count of a cell rises by `n`, its credited value by `v` (R150, R151). -/
def Cell.credit (n v : Nat) (c : Cell) : Cell :=
  { c with credited := riseCount c.credited n, value := riseValue c.value v }

/-- The taken count of a cell rises by `n` (R150, R151). -/
def Cell.take (n : Nat) (c : Cell) : Cell := { c with taken := riseCount c.taken n }

/-- Change one scheme cell. -/
def State.onCell (row : Fin 5) (col : Column) (f : Cell → Cell) (s : State) : State :=
  { s with rows := s.rows.set row.val ((s.rows[row]).set col (f ((s.rows[row]).get col))) row.isLt }

/-! ## Returned counts -/

/-- The place of a reason among the returned counts, in the order of the codes (R153). -/
def ReturnReason.index : ReturnReason → Fin 19
  | .noCode => 0 | .material => 1 | .shape => 2 | .underweight => 3 | .overweight => 4
  | .unknown => 5 | .rights => 6 | .blocked => 7 | .referTimeout => 8 | .referRefused => 9
  | .referLoop => 10 | .referBusy => 11 | .cornerFull => 12 | .paused => 13 | .busy => 14
  | .sessionFull => 15 | .noSessionRoom => 16 | .closed => 17 | .reset => 18

/-- A RETURN verdict raises the returned count of its reason by 1 (R153). -/
def State.countReturn (r : ReturnReason) (s : State) : State :=
  { s with returned := s.returned.set r.index.val (riseCount s.returned[r.index] 1) r.index.isLt }

/-! ## Corner totals (R152) -/

/-- Change the corner totals. -/
def State.onTotals (f : Totals → Totals) (s : State) : State := { s with totals := f s.totals }

def Totals.issue (value : Nat) (t : Totals) : Totals :=
  { t with issuedCount := riseCount t.issuedCount 1, issuedValue := riseValue t.issuedValue value }

def Totals.donate (value : Nat) (t : Totals) : Totals :=
  { t with donationCount := riseCount t.donationCount 1,
           donationValue := riseValue t.donationValue value }

def Totals.cancel (value : Nat) (t : Totals) : Totals :=
  { t with cancelledCount := riseCount t.cancelledCount 1,
           cancelledValue := riseValue t.cancelledValue value }

def Totals.excess (value : Nat) (t : Totals) : Totals :=
  { t with capExcess := riseValue t.capExcess value }

def Totals.discard (value : Nat) (t : Totals) : Totals :=
  { t with resetDiscarded := riseValue t.resetDiscarded value }

def Totals.residue (n : Nat) (t : Totals) : Totals :=
  { t with residueMarked := riseCount t.residueMarked n }

def Totals.foreign (n : Nat) (t : Totals) : Totals :=
  { t with foreignBottles := riseCount t.foreignBottles n }

def Totals.overflow (fill : Nat) (t : Totals) : Totals :=
  { t with overflowItems := riseCount t.overflowItems 1,
           overflowFill := riseCount t.overflowFill fill }

/-! ## The nearly-full mark (R100) -/

/-- The condition of the mark: (committed + reserved) × 100 is at least capacity × warn percent
(R100). -/
def Lane.atWarn (l : Lane) : Bool := l.capacity * l.warn ≤ (l.committed + l.reserved) * 100

/-- The mark is tested; a test that finds it clear and sets it sends a NEARLY FULL notice (R100). -/
def State.testNearlyFull (i : Fin 12) (s : State) : State :=
  let l := s.lanes[i]
  let t := s.setLane i { l with nearlyFull := l.atWarn }
  if !l.nearlyFull && l.atWarn then
    t.notify (.nearlyFull (laneNo i) l.committed l.reserved l.capacity)
  else t

/-! ## Fill (R99) -/

/-- Reserve: the fill is added to the lane's reserved fill (R99). -/
def State.reserve (i : Fin 12) (f : Nat) (s : State) : State :=
  (s.setLane i { s.lanes[i] with reserved := (s.lanes[i]).reserved + f }).testNearlyFull i

/-- Release: the fill is taken from the reserved fill (R99). -/
def State.release (i : Fin 12) (f : Nat) (s : State) : State :=
  (s.setLane i { s.lanes[i] with reserved := (s.lanes[i]).reserved - f }).testNearlyFull i

/-- Commit: the fill moves from reserved to committed, and the items since bin-in rise by one (R99). -/
def State.commit (i : Fin 12) (f : Nat) (s : State) : State :=
  let l := s.lanes[i]
  (s.setLane i { l with reserved := l.reserved - f, committed := l.committed + f,
                        itemsSince := riseCount l.itemsSince 1 }).testNearlyFull i

/-! ## The overflow lane (R113, R114) -/

/-- The overflow high mark is set at a rise that finds the fill above the overflow capacity and the mark
clear, with an OVERFLOW HIGH notice (R114). -/
def State.testOverflowHigh (s : State) : State :=
  if s.params.overflowCapacity < s.overflow.fill ∧ s.overflow.high = false then
    { s with overflow := { s.overflow with high := true } }.notify
      (.overflowHigh s.overflow.fill s.overflow.items s.params.overflowCapacity)
  else s

/-- An order whose fill has been released goes to overflow (R113): the overflow record and the overflow
totals rise, and the mark is tested. -/
def State.overflowOrder (o : Order) (s : State) : State :=
  ({ s with overflow := { s.overflow with fill := riseCount s.overflow.fill o.fill,
                                          items := riseCount s.overflow.items 1 } }.onTotals
    (Totals.overflow o.fill)).testOverflowHigh

/-! ## Changed flags (R116, R167) -/

/-- Set the changed flag of a lane (R116). -/
def State.flagLane (i : Fin 12) (s : State) : State := s.setLane i { s.lanes[i] with changed := true }

/-- Put a station into a state and set its changed flag (R167). -/
def Station.enter (st : StationState) (x : Station) : Station := { x with state := st, changed := true }

end Sys2Proof.Machine
end

