-- ==== Sys2Proof/Machine/Link.lean ====
section
/-! DEFINITION. The two ports (chapter Links, Frames and Management Commands): sending, collisions, held
frames, and the reception of bytes as commands (R171 to R173). -/

namespace Sys2Proof.Machine

/-! ## Sending (R172) -/

/-- The port begins to send the head of its queue; the line then carries the port's own bytes. -/
def Port.startSending (now : Nat) (p : Port) : Port :=
  match p.transmitter, p.queue with
  | .idle, _ :: _ => { p.carry now with transmitter := .sending }
  | _, _ => p

/-- FRAME SEND START (R172): the line has been idle for 200 µs. -/
def execFrameSendStart (l : Link) : State → Host.Outcome State Fault Refusal :=
  live fun s => s.onPort l (Port.startSending s.now)

/-- Length of a backoff in µs for a number drawn from 0 to 15 (R172). -/
def backoffMicros (draw : Fin 16) : Nat := 200 + 40 * draw.val

/-- SEND COLLISION (R172): the port stops and waits; the number drawn is a free value (log entry 3). -/
def execSendCollision (l : Link) : State → Host.Outcome State Fault Refusal :=
  live fun s =>
    match (s.port l).transmitter with
    | .sending =>
      { s with draws := s.draws + 1 }.onPort l fun p =>
        { p.carry s.now with transmitter := .backoff (backoffMicros (Config.backoffDraw s.draws)) }
    | .idle | .backoff _ => s

/-- BACKOFF EXPIRY (R172): the same frame is sent again from its first byte. -/
def execBackoffExpiry (l : Link) : State → Host.Outcome State Fault Refusal :=
  live fun s =>
    s.onPort l fun p =>
      match p.transmitter with
      | .backoff _ => { p.carry s.now with transmitter := .sending }
      | .idle | .sending => p

/-- The reply timer starts at the send of the latest frame of a transfer in REQUEST or STATUS (R82). -/
def State.startReplyTimer (serial : Nat) (s : State) : State :=
  match s.transfer with
  | .running phase n tag _ latest =>
    if phase ≠ .data ∧ serial = latest then
      { s with transfer := .running phase n tag (some (s.now + s.params.voucherTimeout)) latest }
    else s
  | .idle | .stopped _ _ _ _ => s

/-- The drop timer of a lane starts at the send of the DROP GO of the order now in its dropping position
(R124). -/
def State.startDropTimer (serial lane : Nat) (s : State) : State :=
  match laneIx lane with
  | none => s
  | some i =>
    match (s.pipes[i]).dropping with
    | some d =>
      if d.go = serial then
        s.setPipe i { s.pipes[i] with
          dropping := some { d with expiry := some (s.now + s.params.dropTimeout) } }
      else s
    | none => s

/-- What the send of a frame starts (R82, R124). -/
def State.startTimers (q : Queued) (s : State) : State :=
  match q.frame with
  | .voucherRequest _ _ _ _ _ | .voucherLines _ _ _ _ | .statusQuery _ _ => s.startReplyTimer q.serial
  | .dropGo lane _ => s.startDropTimer q.serial lane
  | .verdict _ _ | .sessionResult _ _ | .stationMode _ _ _ | .reply _ _ _ _ _ _ | .notice _
  | .dropOrder _ _ _ _ _ | .laneMode _ _ => s

/-- FRAME SENT (R172): the frame being sent leaves the queue and starts its timer. -/
def execFrameSent (l : Link) : State → Host.Outcome State Fault Refusal :=
  live fun s =>
    match (s.port l).transmitter, (s.port l).queue with
    | .sending, q :: rest =>
      (s.onPort l fun p => { p.carry s.now with queue := rest, transmitter := .idle }).startTimers q
    | _, _ => s

/-! ## Held frames (R173) -/

/-- The last VOUCHER LINES frame of a transfer in DATA has been placed: the transfer goes to STATUS
(R84). -/
def State.linesPlaced (serial : Nat) (s : State) : State :=
  match s.transfer with
  | .running .data n tag e latest =>
    if serial = latest then { s with transfer := .running .status n tag e latest } else s
  | _ => s

/-- HELD FRAME PLACED (R173): the frame held longest is placed in the room that has appeared. -/
def execHeldFramePlaced (l : Link) : State → Host.Outcome State Fault Refusal :=
  live fun s =>
    match (s.port l).held with
    | q :: rest =>
      if (s.port l).queue.length < capacityOf l then
        (s.onPort l fun p => { p with queue := p.queue ++ [q], held := rest }).linesPlaced q.serial
      else s
    | [] => s

/-! ## Receiving (R171) -/

/-- FRAME GAP TIMEOUT (R171): the bytes of the incoming frame so far are discarded.  Where the gap has
not passed, because a byte has begun a new frame since, nothing happens (log entry 33). -/
def execFrameGapTimeout (l : Link) : State → Host.Outcome State Fault Refusal :=
  live fun s => s.onPort l (Port.dropGap s.now)

/-- FRAME DISCARD (R171): a discarded frame changes no state and is not answered, whatever the cause. -/
def execFrameDiscard (_l : Link) (_cause : DiscardCause) : State → Host.Outcome State Fault Refusal :=
  live fun s => s

/-- A kind that a source may send on a link (R171, R181). -/
def kindAllowed (l : Link) (src kind : Nat) : Bool :=
  match l with
  | .front =>
    (stationNumber src && (kind == 0x01 || kind == 0x02 || kind == 0x03 || kind == 0x04)) ||
    (src == 14 && (kind == 0x28 || kind == 0x29)) || (src == 15 && kind == 0x31)
  | .back => laneNumber src && (kind == 0x48 || kind == 0x49)

/-- A source is an address of the link other than 0 (R170, R171). -/
def sourceOk (l : Link) (src : Nat) : Bool :=
  match l with
  | .front => frontSource src
  | .back => backSource src

/-- The command of a COMMAND payload; one that is too short to hold a tag and a code is discarded (log
entry 12). -/
def commandFrame : List Byte → Instr
  | tag :: code :: args => commandOf tag code.toNat args
  | _ => .frameDiscard .front .noCommandCode

/-- The command of a frame that has passed the checks of R171. -/
def frameCommand (l : Link) (src kind : Nat) (payload : List Byte) : Instr :=
  match kind with
  | 0x01 => .announce src payload
  | 0x02 => .itemReport src payload
  | 0x03 => .itemWithdraw src payload
  | 0x04 => .sessionClose src payload
  | 0x28 => .requestAccepted src payload
  | 0x29 => .voucherStatus src payload
  | 0x31 => commandFrame payload
  | 0x48 => .dropDone src payload
  | 0x49 => .laneReport src payload
  | _ => .frameDiscard l .badKind

/-- The command that a complete frame spells: the frame itself, or its discard (R171). -/
def receive (l : Link) (bytes : List Byte) : Instr :=
  match bytes with
  | dst :: src :: kind :: len :: rest =>
    let body := dst :: src :: kind :: len :: rest.take len.toNat
    if Config.maxPayload < len.toNat then .frameDiscard l .badLength
    else if rest.drop len.toNat ≠ be 2 (crc body) then .frameDiscard l .badCheck
    else if dst ≠ 0 then .frameDiscard l .badDestination
    else if !sourceOk l src.toNat then .frameDiscard l .badSource
    else if !kindAllowed l src.toNat kind.toNat then .frameDiscard l .badKind
    else frameCommand l src.toNat kind.toNat (rest.take len.toNat)
  | _ => .frameDiscard l .badLength

/-- The bytes make a complete frame: payload length plus six (R171). -/
def isComplete (bytes : List Byte) : Bool :=
  match bytes with
  | _ :: _ :: _ :: len :: _ => decide (len.toNat + 6 ≤ bytes.length)
  | _ => false

/-- A line falls idle: an input of the model, not a command (R171, log entry 44).  While the port sends
the line is not idle, and while RESET is asserted nothing is taken (R180). -/
def State.lineFallsIdle (l : Link) (s : State) : State :=
  if s.resetAsserted then s
  else s.onPort l fun p => { p with idle := p.idle || p.transmitter != .sending }

/-- A byte arrives on a link: an input of the model, not a command.  A frame begins with a byte that
follows an idle line; another byte outside a frame is not taken (R171).  A complete frame becomes a
command at the end of the queue (log entry 11).  A byte that follows a gap of more than 1 ms does not
join the bytes before it, whether or not the gap's own event has been taken yet (R171).  While RESET is
asserted no frame is taken (R180). -/
def State.byteArrives (l : Link) (b : Byte) (s : State) : State :=
  if s.resetAsserted then s
  else
    let p := (s.port l).dropGap s.now
    let q := { p.carry s.now with lastByte := s.now }
    if p.incoming.isEmpty && !p.lineIdle s.now then s.onPort l fun _ => q
    else
      let bytes := p.incoming ++ [b]
      if isComplete bytes then
        { s.onPort l fun _ => { q with incoming := [] } with
          pending := s.pending ++ [receive l bytes] }
      else s.onPort l fun _ => { q with incoming := bytes }

/-- Ten bits of a line arrive: the byte that they carry is taken (R170).  Bits without the start bit or
the stop bit carry no byte, and nothing is taken (log entry 42). -/
def State.bitsArrive (l : Link) (bits : List Bool) (s : State) : State :=
  match byteOfLine bits with
  | some b => s.byteArrives l b
  | none => s

end Sys2Proof.Machine
end

