-- ==== Sys2Proof/Machine/Article.lean ====
section
/-! DEFINITION. The Article Table, the Scheme Key List and the Deposit Class Table (chapter The
Article Table and Scheme Keys): checks, normalisation, lookup, rights, and the commands that load and
read them. -/

namespace Sys2Proof.Machine

/-! ## Keys and the table -/

/-- A number normalised to a span (R2). -/
def normalise (n : Nat) : Span → Nat
  | .exact => n
  | .tens => n / 10 * 10
  | .hundreds => n / 100 * 100

/-- One number for the pair (number, span), by which the table is held in order (log entry 29). -/
def keyCode (n : Nat) (sp : Span) : Nat := n * 3 + sp.code

/-- The key of an entry (R2). -/
def Entry.key (e : Entry) : Nat := keyCode e.number e.span

/-- The entry of a key, if one is present. -/
def findEntry (t : List Entry) (n : Nat) (sp : Span) : Option Entry :=
  t.find? (·.key == keyCode n sp)

/-- Store an entry under its key: it replaces the entry of that key, or joins in key order (R3, R5). -/
def storeEntry (e : Entry) : List Entry → List Entry
  | [] => [e]
  | x :: xs =>
    if e.key < x.key then e :: x :: xs
    else if e.key = x.key then e :: xs
    else x :: storeEntry e xs

/-- Remove the entry of a key (R6). -/
def removeEntry (n : Nat) (sp : Span) (t : List Entry) : List Entry :=
  t.filter (·.key != keyCode n sp)

/-- The Article Table's form: strictly rising by key, so that no two entries share a key (R3). -/
def tableWf (t : List Entry) : Bool := (t.map Entry.key).Pairwise (· < ·)

/-! ## Checking a carried entry (R4) -/

/-- The fields of its kind, checked against the ranges of R1; the fields of the other kind are ignored
(R4). -/
def entryBody (r : RawEntry) : Option EntryBody :=
  match ItemKind.ofCode r.kind with
  | none => none
  | some .container =>
    match Material.ofCode r.material with
    | none => none
    | some m =>
      if 1 ≤ r.nominalMass ∧ r.nominalMass ≤ 2000 ∧ r.massTolerance ≤ 255 ∧ r.residue ≤ 255 ∧
          1 ≤ r.volume ∧ r.volume ≤ 3000 then
        some (.container m r.nominalMass r.massTolerance r.residue r.volume)
      else none
  | some .crate =>
    if 1 ≤ r.slots ∧ r.slots ≤ 30 ∧ r.bottleNumber ≤ Config.maxArticle then
      some (.crate r.slots r.bottleNumber)
    else none

/-- The article entry that a LOAD ARTICLE or an ENTRY answer carries, with its number normalised (R2);
`none` where a check of R4 fails. -/
def checkEntry (r : RawEntry) : Option Entry :=
  match Span.ofCode r.span, CheckMode.ofCode r.check, Rights.ofCode r.own, Rights.ofCode r.partner,
      Rights.ofCode r.foreign, entryBody r with
  | some span, some check, some own, some partner, some foreign, some body =>
    if h : r.depositClass < 16 then
      if r.number ≤ Config.maxArticle ∧ 1 ≤ r.scheme ∧ r.scheme ≤ 255 ∧ 1 ≤ r.producer ∧
          r.producer ≤ 4095 ∧ 40 ≤ r.nominalHeight ∧ r.nominalHeight ≤ 450 ∧
          r.heightTolerance ≤ 31 then
        some { number := normalise r.number span, span, depositClass := ⟨r.depositClass, h⟩,
               scheme := r.scheme, producer := r.producer, own, partner, foreign, check,
               nominalHeight := r.nominalHeight, heightTolerance := r.heightTolerance, body }
      else none
    else none
  | _, _, _, _, _, _ => none

/-! ## Lookup (R9, R10) -/

/-- The lookup: the EXACT key, then the TENS key, then the HUNDREDS key (R9). -/
def lookup (t : List Entry) (n : Nat) : Option Entry :=
  (findEntry t n .exact).or
    ((findEntry t (normalise n .tens) .tens).or (findEntry t (normalise n .hundreds) .hundreds))

/-- Kind of an entry (R1). -/
def Entry.kind (e : Entry) : ItemKind :=
  match e.body with
  | .container _ _ _ _ _ => .container
  | .crate _ _ => .crate

/-- The bottle lookup of a found entry: the EXACT entry of a crate's bottle number, where that is a
CONTAINER (R10). -/
def bottleLookup (t : List Entry) (e : Entry) : Option Entry :=
  match e.body with
  | .container _ _ _ _ _ => none
  | .crate _ bottleNumber => (findEntry t bottleNumber .exact).filter (·.kind == .container)

/-! ## Rights (R13 to R16) -/

/-- The triple of an entry for its class under a key: OWN, PARTNER or FOREIGN (R13). -/
def Entry.triple (e : Entry) (k : SchemeKey) : Rights :=
  if k.scheme = e.scheme then (if k.producer = e.producer then e.own else e.partner) else e.foreign

def Rights.union (a b : Rights) : Rights :=
  ⟨a.credit || b.credit, a.take || b.take, a.refill || b.refill⟩

/-- The slots' keys, lowest number first, each with the number of its slot, which is that of its
scheme row (R12). -/
def slotKeys (keys : Vector (Option SchemeKey) 4) : List (Fin 5 × SchemeKey) :=
  [((1 : Fin 5), keys[0]), (2, keys[1]), (3, keys[2]), (4, keys[3])].filterMap fun p =>
    p.2.map fun k => (p.1, k)

/-- The computed right set: the union over the non-empty slots (R14). -/
def rightSet (keys : Vector (Option SchemeKey) 4) (e : Entry) : Rights :=
  (slotKeys keys).foldl (fun r p => r.union (e.triple p.2)) ⟨false, false, false⟩

/-- The lowest-numbered non-empty slot whose triple contains a right (R14); 0 if there is none. -/
def rowOf (keys : Vector (Option SchemeKey) 4) (e : Entry) (has : Rights → Bool) : Fin 5 :=
  (((slotKeys keys).find? fun p => has (e.triple p.2)).map (·.1)).getD 0

/-- The key list is enabled while slot 1 holds a key (R12). -/
def keysEnabled (keys : Vector (Option SchemeKey) 4) : Bool := keys[0].isSome

/-- The outcome of a rights determination (section 1.6); `credit` is the verdict kind, CREDIT or TAKE.
-/
inductive RightsOutcome where
  | accept (set : Rights) (credit : Bool) (row : Fin 5)
  | returnRights
  | returnBlocked
  | refer
  deriving DecidableEq, Repr

/-- Accept under the OWN triple, in row 0 (R15). -/
def acceptOwn (e : Entry) : RightsOutcome := .accept e.own e.own.credit 0

/-- Accept under the computed right set, if it contains CREDIT or TAKE (R14, R15). -/
def acceptComputed (keys : Vector (Option SchemeKey) 4) (e : Entry)
    (otherwise : RightsOutcome) : RightsOutcome :=
  let r := rightSet keys e
  if r.credit then .accept r true (rowOf keys e Rights.credit)
  else if r.take then .accept r false (rowOf keys e Rights.take)
  else otherwise

/-- The rights determination of an entry copy (R15). -/
def rightsOf (keys : Vector (Option SchemeKey) 4) (e : Entry) : RightsOutcome :=
  match e.check with
  | .opened => acceptOwn e
  | .strict => if keysEnabled keys then acceptComputed keys e .returnRights else acceptOwn e
  | .referOnFail => if keysEnabled keys then acceptComputed keys e .refer else acceptOwn e
  | .refer => .refer
  | .blocked => .returnBlocked

/-- Whether the own bottles earn bottle credit under a bottle entry, and the bottle row (R16). -/
def bottleRights (keys : Vector (Option SchemeKey) 4) (b : Entry) : Bool × Fin 5 :=
  match b.check with
  | .opened => (b.own.credit, 0)
  | .strict | .referOnFail | .refer =>
    if keysEnabled keys then
      if (rightSet keys b).credit then (true, rowOf keys b Rights.credit) else (false, 0)
    else (b.own.credit, 0)
  | .blocked => (false, 0)

/-! ## Replies of this chapter -/

/-- The entry count as the REPLY of a table command carries it (R3). -/
def countField (t : List Entry) : List Byte := be 2 t.length

/-- An entry read back: every field of R1 in its order, those absent for its kind shown as absent
(R7, R182). -/
def Entry.bytes (e : Entry) : List Byte :=
  be 6 e.number ++ be 1 e.span.code ++ be 1 e.kind.code ++
  optBe 1 (match e.body with | .container m _ _ _ _ => some m.code | .crate _ _ => none) ++
  be 1 e.depositClass.val ++ be 1 e.scheme ++ be 2 e.producer ++ be 1 e.own.code ++
  be 1 e.partner.code ++ be 1 e.foreign.code ++ be 1 e.check.code ++
  (match e.body with
    | .container _ mass tolerance residue _ => be 2 mass ++ be 2 tolerance ++ be 2 residue
    | .crate _ _ => absent 6) ++
  be 2 e.nominalHeight ++ be 1 e.heightTolerance ++
  (match e.body with
    | .container _ _ _ _ volume => be 2 volume ++ absent 7
    | .crate slots bottleNumber => absent 2 ++ be 1 slots ++ be 6 bottleNumber)

/-- What storing an entry comes to (R5). -/
inductive StoreResult where
  | new | replaced | full
  deriving DecidableEq, Repr

/-- Store an entry in the Article Table as LOAD ARTICLE does: NEW, REPLACED, or no room for a new key
(R5). -/
def State.loadEntry (e : Entry) (s : State) : StoreResult × State :=
  match findEntry s.articles e.number e.span with
  | some _ => (.replaced, { s with articles := storeEntry e s.articles })
  | none =>
    if s.articles.length < Config.maxEntries then
      (.new, { s with articles := storeEntry e s.articles })
    else (.full, s)

/-! ## Meanings -/

/-- LOAD ARTICLE (R4, R5): the REPLY carries the indication where the entry was stored, then the count
(R3). -/
def execLoadArticle (tag : Byte) (r : RawEntry) : State → Host.Outcome State Fault Refusal :=
  live fun s =>
    match checkEntry r with
    | none => s.reply tag 1 .badValue (countField s.articles)
    | some e =>
      match s.loadEntry e with
      | (.new, t) => t.reply tag 1 .ok (be 1 0 ++ countField t.articles)
      | (.replaced, t) => t.reply tag 1 .ok (be 1 1 ++ countField t.articles)
      | (.full, t) => t.reply tag 1 .tableFull (countField t.articles)

/-- REMOVE ARTICLE (R6). -/
def execRemoveArticle (tag : Byte) (number span : Nat) :
    State → Host.Outcome State Fault Refusal :=
  live fun s =>
    match Span.ofCode span with
    | none => s.reply tag 2 .badValue (countField s.articles)
    | some sp =>
      if number ≤ Config.maxArticle then
        match findEntry s.articles (normalise number sp) sp with
        | none => s.reply tag 2 .notFound (countField s.articles)
        | some _ =>
          let t := { s with articles := removeEntry (normalise number sp) sp s.articles }
          t.reply tag 2 .ok (countField t.articles)
      else s.reply tag 2 .badValue (countField s.articles)

/-- The answer of READ ARTICLE: the entry, or NOT_FOUND (R7). -/
def State.answerEntry (tag : Byte) (e : Option Entry) (s : State) : State :=
  match e with
  | some e => s.reply tag 3 .ok e.bytes
  | none => s.refuse tag 3 .notFound

/-- READ ARTICLE, key form (R7). -/
def execReadArticleKey (tag : Byte) (number span : Nat) :
    State → Host.Outcome State Fault Refusal :=
  live fun s =>
    match Span.ofCode span with
    | none => s.refuse tag 3 .badValue
    | some sp =>
      if number ≤ Config.maxArticle then
        s.answerEntry tag (findEntry s.articles (normalise number sp) sp)
      else s.refuse tag 3 .badValue

/-- READ ARTICLE, lookup form (R7, R9). -/
def execReadArticleLookup (tag : Byte) (number : Nat) : State → Host.Outcome State Fault Refusal :=
  live fun s =>
    if number ≤ Config.maxArticle then s.answerEntry tag (lookup s.articles number)
    else s.refuse tag 3 .badValue

/-- CLEAR TABLE (R8): refused while referral records exist; every REPLY carries the count (R3). -/
def execClearTable (tag : Byte) : State → Host.Outcome State Fault Refusal :=
  live fun s =>
    if s.referrals.isEmpty then { s with articles := [] }.reply tag 4 .ok (countField [])
    else s.reply tag 4 .notIdle (countField s.articles)

/-- The scheme row of a slot (R12). -/
def slotRow (i : Fin 4) : Fin 5 := i.succ

/-- LOAD KEY (R17): the range checks come first, then the row must be clear. -/
def execLoadKey (tag : Byte) (slot scheme producer : Nat) :
    State → Host.Outcome State Fault Refusal :=
  live fun s =>
    match slotIx slot with
    | none => s.refuse tag 5 .badValue
    | some i =>
      if 1 ≤ scheme ∧ scheme ≤ 255 ∧ producer ≤ 4095 then
        if (s.rows[slotRow i]).isClear then
          { s with keys := s.keys.set i.val (some ⟨scheme, producer⟩) i.isLt }.reply tag 5 .ok []
        else s.refuse tag 5 .countersNotClear
      else s.refuse tag 5 .badValue

/-- CLEAR KEY (R18). -/
def execClearKey (tag : Byte) (slot : Nat) : State → Host.Outcome State Fault Refusal :=
  live fun s =>
    match slotIx slot with
    | none => s.refuse tag 6 .badValue
    | some i =>
      if (s.rows[slotRow i]).isClear then
        { s with keys := s.keys.set i.val none i.isLt }.reply tag 6 .ok []
      else s.refuse tag 6 .countersNotClear

/-- One key slot as READ KEYS gives it: scheme id and producer id, both absent for an empty slot (R19,
R182, log entry 15). -/
def slotField (k : Option SchemeKey) : List Byte :=
  optBe 2 (k.map SchemeKey.scheme) ++ optBe 2 (k.map SchemeKey.producer)

/-- READ KEYS (R19). -/
def execReadKeys (tag : Byte) : State → Host.Outcome State Fault Refusal :=
  live fun s =>
    s.reply tag 7 .ok (s.keys.toList.flatMap slotField ++ markByte (keysEnabled s.keys))

/-- SET CLASS VALUE (R21). -/
def execSetClassValue (tag : Byte) (cls value : Nat) : State → Host.Outcome State Fault Refusal :=
  live fun s =>
    if h : 1 ≤ cls ∧ cls < 16 then
      if value ≤ 9999 then
        { s with classValues := s.classValues.set cls value h.2 }.reply tag 8 .ok []
      else s.refuse tag 8 .badValue
    else s.refuse tag 8 .badValue

/-- READ CLASS VALUES (R21). -/
def execReadClassValues (tag : Byte) : State → Host.Outcome State Fault Refusal :=
  live fun s => s.reply tag 9 .ok (s.classValues.toList.flatMap (be 2))

end Sys2Proof.Machine
end

