-- ==== Sys2Proof/Machine/Pipeline.lean ====
section
/-! DEFINITION. How orders move inside a lane: staging, starting a drop, the stroke requests and the
considerations of the Stroke Budget that grant them (chapters The Drop Pipeline and Compactor Stroke
Budget).  Nothing here changes a lane's state. -/

namespace Sys2Proof.Machine

/-- The DROP ORDER of an order (R122). -/
def dropOrderFrame (i : Fin 12) (o : Order) : Frame :=
  .dropOrder (laneNo i) o.handle o.kind o.fill (stationNo o.station)

/-- Stage: in OPEN or DRAINING with the staged position empty, the head of the queue enters it and its
DROP ORDER is placed (R122). -/
def State.stage (i : Fin 12) (s : State) : State :=
  let p := s.pipes[i]
  match p.staged, p.queue with
  | none, o :: rest =>
    if (s.lanes[i]).state.runs then
      (s.setPipe i { p with staged := some o, queue := rest }).place (dropOrderFrame i o)
    else s
  | _, _ => s

/-- The staged order moves to the dropping position with its jam mark clear, its DROP GO is placed, and
the next order is staged if it can be (R123).  The serial of the DROP GO is kept with it (R124). -/
def State.enterDropping (i : Fin 12) (s : State) : State :=
  match (s.pipes[i]).staged with
  | none => s
  | some o =>
    let p := s.pipes[i]
    let t := (s.setPipe i { p with staged := none,
                                   dropping := some ⟨o, false, none, s.serial + 1⟩ }).place
      (.dropGo (laneNo i) o.handle)
    t.stage i

/-! ## The Stroke Budget -/

/-- Weight of a stroke by thermal class; OVER carries none (R139). -/
def Thermal.weight : Thermal → Option Nat
  | .cool | .normal => some 1
  | .warm => some 2
  | .hot => some 4
  | .over => none

/-- The weight used: the lesser of the class's weight and B, read afresh from the lane record (R139). -/
def State.weight? (s : State) (i : Fin 12) : Option Nat :=
  (s.lanes[i]).thermal.weight.map fun w => min w s.params.budget

/-- The lanes in turn from a lane upward, from lane 12 back to lane 1, each once (R140). -/
def turnFrom (p : Fin 12) : List (Fin 12) := allLanes.map fun k => p + k

/-- The candidate: the first lane in turn from the pointer with a waiting request (R140). -/
def State.candidate? (s : State) : Option (Fin 12) :=
  (turnFrom s.pointer).find? fun i => (s.pipes[i]).request

/-- A grant (R142): a record joins the list, the pointer moves past the lane, the request leaves the
set, and the pipeline takes the grant. -/
def State.grant (i : Fin 12) (w : Nat) (s : State) : State :=
  let t : State := { s with strokes := s.strokes ++ [⟨s.now, w, i⟩], pointer := i + 1 }
  (t.setPipe i { t.pipes[i] with request := false }).enterDropping i

/-- Grant candidate after candidate until one does not fit or none waits (R140); each grant takes one
request away, so twelve rounds are enough. -/
def State.grantInTurn : Nat → State → State
  | 0, s => s
  | fuel + 1, s =>
    match s.candidate? with
    | none => s
    | some i =>
      match s.weight? i with
      | none => s
      | some w =>
        if s.strokeSum + w ≤ s.params.budget then State.grantInTurn fuel (s.grant i w) else s

/-- A consideration: nothing is granted while the feed-fault state is asserted (R140). -/
def State.consider (s : State) : State := if s.feedFault then s else s.grantInTurn 12

/-- A stroke request is placed, and a consideration follows (R138, R141). -/
def State.requestStroke (i : Fin 12) (s : State) : State :=
  (s.setPipe i { s.pipes[i] with request := true }).consider

/-- A waiting stroke request is withdrawn, and a consideration follows (R144). -/
def State.withdrawStroke (i : Fin 12) (s : State) : State :=
  if (s.pipes[i]).request then (s.setPipe i { s.pipes[i] with request := false }).consider else s

/-! ## Starting and going on -/

/-- Start a drop: in OPEN or DRAINING, with a staged order and an empty dropping position.  A LOOSE lane
drops at once; a stroke lane places a request if it has none waiting (R123). -/
def State.startDrop (i : Fin 12) (s : State) : State :=
  let p := s.pipes[i]
  if (s.lanes[i]).state.runs && p.staged.isSome && p.dropping.isNone then
    match (s.lanes[i]).kind with
    | .loose => s.enterDropping i
    | .compact | .breaker | .stack => if p.request then s else s.requestStroke i
  else s

/-- The pipeline goes as far as R122 and R123 allow. -/
def State.advance (i : Fin 12) (s : State) : State := (s.stage i).startDrop i

/-- An order joins a lane's queue at the tail, and the pipeline advances (R121). -/
def State.appendOrder (i : Fin 12) (o : Order) (s : State) : State :=
  (s.setPipe i { s.pipes[i] with queue := (s.pipes[i]).queue ++ [o] }).advance i

end Sys2Proof.Machine
end

