-- ==== Sys2Proof/Machine/Lane.lean ====
section
/-! DEFINITION. The Lane Router and the ends of drops: lane choice, lane states, entry into SWAP and
FAULT with rerouting, completions, jams, lane reports, and the lane commands (chapters Lanes, Fill
and Routing, and The Drop Pipeline). -/

namespace Sys2Proof.Machine

/-! ## Fill and lane choice -/

/-- What an item takes in a lane: a crate one position; a container V × k ÷ 1,600 rounded up, k being
the lane's compaction factor (R98). -/
def itemFill (kind : ItemKind) (volume : Nat) (l : Lane) : Nat :=
  match kind with
  | .crate => 1
  | .container => (volume * l.factor + 1599) / 1600

/-- A lane is a candidate for a route class, a fill and a lane to be left out (R101). -/
def State.isCandidate (s : State) (route : RouteClass) (fill : Lane → Nat)
    (leaveOut : Option (Fin 12)) (i : Fin 12) : Bool :=
  let l := s.lanes[i]
  l.route == route && l.state == .opened && !l.mask && leaveOut != some i &&
    decide ((s.pipes[i]).queue.length < Config.maxQueue) &&
    decide (l.committed + l.reserved + fill l ≤ l.capacity)

/-- The lane with the greatest remaining room, the lowest number at a tie (R101). -/
def State.roomiest (s : State) : List (Fin 12) → Option (Fin 12)
  | [] => none
  | i :: is =>
    match s.roomiest is with
    | none => some i
    | some j => if (s.lanes[i]).room < (s.lanes[j]).room then some j else some i

/-- Lane choice: candidates whose nearly-full mark is clear if there are any, then the greatest
remaining room, then the lowest number (R101). -/
def State.chooseLane (s : State) (route : RouteClass) (fill : Lane → Nat)
    (leaveOut : Option (Fin 12)) : Option (Fin 12) :=
  let all := allLanes.filter (s.isCandidate route fill leaveOut)
  let clear := all.filter fun i => !(s.lanes[i]).nearlyFull
  s.roomiest (if clear.isEmpty then all else clear)

/-! ## Lane states -/

/-- Store a lane's new state and set its changed flag (R102). -/
def State.storeLaneState (i : Fin 12) (st : LaneState) (s : State) : State :=
  s.setLane i { s.lanes[i] with state := st, changed := true }

/-- Place the LANE MODE frame of a lane's state for its driver (R102). -/
def State.placeLaneMode (i : Fin 12) (s : State) : State :=
  s.place (.laneMode (laneNo i) (s.lanes[i]).state)

/-- A change to OPEN, DRAINING, REST or CLOSED: flag, LANE MODE, and outside OPEN and DRAINING the
withdrawal of a waiting request (R102, R144). -/
def State.changeLane (i : Fin 12) (st : LaneState) (s : State) : State :=
  let t := (s.storeLaneState i st).placeLaneMode i
  if st.runs then t else t.withdrawStroke i

/-- Release an order's fill in its lane and send it to overflow (R99, R113). -/
def State.toOverflow (i : Fin 12) (o : Order) (s : State) : State :=
  (s.release i o.fill).overflowOrder o

/-- Reroute one order of a failing lane: released there, offered to lane choice with the fill it holds
and without the failing lane, else to overflow (R112). -/
def State.reroute (i : Fin 12) (o : Order) (s : State) : State :=
  let t := s.release i o.fill
  match t.chooseLane (t.lanes[i]).route (fun _ => o.fill) (some i) with
  | some j => (t.reserve j o.fill).appendOrder j o
  | none => t.overflowOrder o

/-- Reroute the queue of a failing lane, oldest first; each order leaves the queue as it is rerouted
(R112, R132). -/
def State.rerouteAll (i : Fin 12) : List Order → State → State
  | [], s => s
  | o :: rest, s =>
    State.rerouteAll i rest ((s.setPipe i { s.pipes[i] with queue := rest }).reroute i o)

/-- The staged order leaves its position on entry into SWAP or FAULT and goes to overflow (R111). -/
def State.overflowStaged (i : Fin 12) (s : State) : State :=
  match (s.pipes[i]).staged with
  | none => s
  | some o => (s.setPipe i { s.pipes[i] with staged := none }).toOverflow i o

/-- Entry into SWAP or FAULT: the change of state, the withdrawal of a waiting request (log entry 20),
the staged order to overflow, the queue rerouted, then the LANE MODE frame (R111, R132). -/
def State.enterOut (i : Fin 12) (st : LaneState) (s : State) : State :=
  let t := ((s.storeLaneState i st).withdrawStroke i).overflowStaged i
  (t.rerouteAll i (t.pipes[i]).queue).placeLaneMode i

/-- Return from REST or SWAP to OPEN or DRAINING: an empty pipeline in DRAINING goes on to CLOSED at
once, otherwise the pipeline advances (R108, R110, R131). -/
def State.returnTo (i : Fin 12) (b : RunState) (s : State) : State :=
  let t := s.changeLane i b.laneState
  if b = .draining ∧ (t.pipes[i]).isEmpty then t.changeLane i .closed else t.advance i

/-! ## Results and the ends of drops -/

/-- A lane enters FAULT from OPEN, DRAINING, REST or SWAP (R111, R127). -/
def State.enterFault (i : Fin 12) (s : State) : State :=
  match (s.lanes[i]).state with
  | .opened | .draining | .rest _ | .swap _ _ => s.enterOut i .fault
  | .closed | .fault => s

/-- Record a result; a FAIL that displaces a FAIL sends the lane to FAULT (R127). -/
def State.recordResult (i : Fin 12) (r : DropResult) (s : State) : State :=
  let p := s.pipes[i]
  let t := s.setPipe i { p with beforeLast := p.last, last := some r }
  if r = .fail ∧ p.last = some .fail then t.enterFault i else t

/-- Going on after the dropping position has emptied (R130): in OPEN and DRAINING the pipeline advances,
and an empty DRAINING lane closes (R104). -/
def State.goOn (i : Fin 12) (s : State) : State :=
  match (s.lanes[i]).state with
  | .opened => s.advance i
  | .draining =>
    let t := s.advance i
    if (t.pipes[i]).isEmpty then t.changeLane i .closed else t
  | .closed | .rest _ | .swap _ _ | .fault => s

/-- The end of the dropping order with a result (R125, R126, R129): it leaves the position, its fill is
committed or it goes to overflow, the result is recorded unless its jam mark is set, and the pipeline
goes on. -/
def State.endDrop (i : Fin 12) (r : DropResult) (s : State) : State :=
  match (s.pipes[i]).dropping with
  | none => s
  | some d =>
    let t := s.setPipe i { s.pipes[i] with dropping := none }
    let u := match r with
      | .pass => t.commit i d.order.fill
      | .fail => t.toOverflow i d.order
    (if d.jam then u else u.recordResult i r).goOn i

/-- A jam is counted once against the dropping order (R128). -/
def State.jam (i : Fin 12) (s : State) : State :=
  match (s.pipes[i]).dropping with
  | none => s
  | some d =>
    if d.jam then s
    else (s.setPipe i { s.pipes[i] with dropping := some { d with jam := true } }).recordResult i .fail

/-! ## Lane reports (R107 to R110) -/

/-- The thermal class of a report (R108).  The consideration that a change of a waiting lane's class
calls for is made by `considerWaiting`, after the rest of the report (R141). -/
def State.reportThermal (i : Fin 12) (c : Thermal) (s : State) : State :=
  if c = (s.lanes[i]).thermal then s
  else
    let t := s.setLane i { s.lanes[i] with thermal := c, changed := true }
    match (t.lanes[i]).state, c with
    | .opened, .over => t.changeLane i (.rest .opened)
    | .draining, .over => t.changeLane i (.rest .draining)
    | .rest _, .over => t
    | .rest b, _ => t.returnTo i b
    | _, _ => t

/-- A bin-out (R109). -/
def State.binOut (i : Fin 12) (s : State) : State :=
  let l := s.lanes[i]
  let t := s.setLane i { l with binPresent := false, fillAtRemoval := l.committed }
  match l.state with
  | .opened => t.enterOut i (.swap .opened false)
  | .draining => t.enterOut i (.swap .draining false)
  | .rest b => t.enterOut i (.swap b true)
  | .closed | .swap _ _ | .fault => t

/-- Set the items since bin-in to 0 (R110). -/
def State.clearItems (i : Fin 12) (s : State) : State := s.setLane i { s.lanes[i] with itemsSince := 0 }

/-- A bin-in (R110). -/
def State.binIn (i : Fin 12) (s : State) : State :=
  let t := (s.setLane i { s.lanes[i] with binPresent := true, committed := 0 }).testNearlyFull i
  let l := t.lanes[i]
  match l.state with
  | .swap b _ =>
    let u := (t.notify (.binSwapped (laneNo i) l.fillAtRemoval l.itemsSince)).clearItems i
    if l.thermal = .over then u.changeLane i (.rest b) else u.returnTo i b
  | .closed | .fault => t.clearItems i
  | .opened | .draining | .rest _ => t

/-- The bin presence of a report, where it differs from the one held (R107). -/
def State.reportBin (i : Fin 12) (present : Bool) (s : State) : State :=
  match (s.lanes[i]).binPresent, present with
  | true, false => s.binOut i
  | false, true => s.binIn i
  | true, true | false, false => s

/-- The consideration after a change of the thermal class of a lane whose request was waiting (R141).
Where the same report withdrew the request, its one consideration has been made at the withdrawal
(R144). -/
def State.considerWaiting (i : Fin 12) (waited : Bool) (s : State) : State :=
  if waited && (s.pipes[i]).request then s.consider else s

/-- The jam indication of a report (R107, R128). -/
def State.reportJam (i : Fin 12) (jam : Bool) (s : State) : State := if jam then s.jam i else s

/-- The three parts of a report in their order, then the consideration that a change of class calls for,
after the report's other effects (R107, R141, log entry 43). -/
def State.report (i : Fin 12) (r : LaneReport) (s : State) : State :=
  (((s.reportThermal i r.thermal).reportBin i r.binPresent).reportJam i r.jam).considerWaiting i
    ((s.pipes[i]).request && r.thermal != (s.lanes[i]).thermal)

/-! ## Meanings: lane drivers -/

/-- LANE REPORT: thermal class, bin presence, jam indication, in this order (R107). -/
def execLaneReport (src : Nat) (payload : List Byte) : State → Host.Outcome State Fault Refusal :=
  live fun s =>
    match laneIx src, parseLaneReport payload with
    | some i, some r => s.report i r
    | _, _ => s

/-- DROP DONE (R125, R133): only the handle in the source lane's dropping position completes. -/
def execDropDone (src : Nat) (payload : List Byte) : State → Host.Outcome State Fault Refusal :=
  live fun s =>
    match laneIx src, parseDropDone payload with
    | some i, some (handle, r) =>
      match (s.pipes[i]).dropping with
      | some d => if d.order.handle = handle then s.endDrop i r else s
      | none => s
    | _, _ => s

/-- DROP EXPIRY: the drop timer of a lane's dropping order has run out (R126). -/
def execDropExpiry (lane : Nat) : State → Host.Outcome State Fault Refusal :=
  live fun s =>
    match laneIx lane with
    | some i =>
      match (s.pipes[i]).dropping with
      | some d =>
        match d.expiry with
        | some e => if e ≤ s.now then s.endDrop i .fail else s
        | none => s
      | none => s
    | none => s

/-- STROKE RECORD EXPIRY: the head of the list leaves W ms after its grant, and a consideration follows
(R143). -/
def execStrokeRecordExpiry : State → Host.Outcome State Fault Refusal :=
  live fun s =>
    match s.strokes with
    | r :: rest =>
      if r.time + s.params.window ≤ s.now then { s with strokes := rest }.consider else s
    | [] => s

/-! ## Meanings: lane commands -/

/-- The configuration that a SET LANE carries, within the values and ranges of R97. -/
def laneConfig (kind route capacity factor warn : Nat) : Option (LaneKind × RouteClass) :=
  match LaneKind.ofCode kind, RouteClass.ofCode route with
  | some k, some r =>
    if 1 ≤ capacity ∧ capacity ≤ 20000 ∧ 1 ≤ factor ∧ factor ≤ 16 ∧ 50 ≤ warn ∧ warn ≤ 99 then
      some (k, r)
    else none
  | _, _ => none

/-- SET LANE (R97). -/
def execSetLane (tag : Byte) (lane kind route capacity factor warn : Nat) :
    State → Host.Outcome State Fault Refusal :=
  live fun s =>
    match laneIx lane, laneConfig kind route capacity factor warn with
    | some i, some (k, r) =>
      let l := s.lanes[i]
      if l.state = .closed then
        if capacity < l.committed then s.refuse tag 16 .belowFill
        else
          ((s.setLane i { l with kind := k, route := r, capacity, factor, warn }).testNearlyFull
            i).reply tag 16 .ok []
      else s.refuse tag 16 .badState
    | _, _ => s.refuse tag 16 .badValue

/-- LANE GO OPEN (R103). -/
def execLaneGoOpen (tag : Byte) (lane : Nat) : State → Host.Outcome State Fault Refusal :=
  live fun s =>
    match laneIx lane with
    | none => s.refuse tag 17 .badValue
    | some i =>
      let l := s.lanes[i]
      match l.state with
      | .closed =>
        if 0 < l.capacity ∧ l.binPresent then
          (if l.thermal = .over then s.changeLane i (.rest .opened) else s.returnTo i .opened).reply
            tag 17 .ok []
        else s.refuse tag 17 .badState
      | .draining => (s.returnTo i .opened).reply tag 17 .ok []
      | .opened | .rest _ | .swap _ _ | .fault => s.refuse tag 17 .badState

/-- LANE GO DRAIN (R103, R104): the REPLY carries the state in which the lane then stands. -/
def execLaneGoDrain (tag : Byte) (lane : Nat) : State → Host.Outcome State Fault Refusal :=
  live fun s =>
    match laneIx lane with
    | none => s.refuse tag 17 .badValue
    | some i =>
      match (s.lanes[i]).state with
      | .opened =>
        let t := s.changeLane i (if (s.pipes[i]).isEmpty then .closed else .draining)
        t.reply tag 17 .ok (be 1 (t.lanes[i]).state.code)
      | .rest _ =>
        let t := s.setLane i { s.lanes[i] with state := .rest .draining }
        t.reply tag 17 .ok (be 1 (t.lanes[i]).state.code)
      | .closed | .draining | .swap _ _ | .fault => s.refuse tag 17 .badState

/-- LANE GO CLEAR FAULT (R103, R105). -/
def execLaneGoClearFault (tag : Byte) (lane : Nat) : State → Host.Outcome State Fault Refusal :=
  live fun s =>
    match laneIx lane with
    | none => s.refuse tag 17 .badValue
    | some i =>
      match (s.lanes[i]).state with
      | .fault =>
        if (s.pipes[i]).dropping.isSome then s.refuse tag 17 .notIdle
        else
          ((s.setPipe i { s.pipes[i] with last := none, beforeLast := none }).changeLane i
            .closed).reply tag 17 .ok []
      | .closed | .opened | .draining | .rest _ | .swap _ _ => s.refuse tag 17 .badState

/-- MASK LANE (R106). -/
def execMaskLane (tag : Byte) (lane mask : Nat) : State → Host.Outcome State Fault Refusal :=
  live fun s =>
    match laneIx lane, markOfCode mask with
    | some i, some m => (s.setLane i { s.lanes[i] with mask := m }).reply tag 18 .ok []
    | _, _ => s.refuse tag 18 .badValue

/-- OVERFLOW EMPTIED (R115): the answer carries the overflow fill and items as they stood. -/
def execOverflowEmptied (tag : Byte) : State → Host.Outcome State Fault Refusal :=
  live fun s =>
    { s with overflow := ⟨0, 0, false⟩ }.reply tag 19 .ok
      (be 4 s.overflow.fill ++ be 4 s.overflow.items)

end Sys2Proof.Machine
end

