-- ==== Sys2Proof/Machine/Delivery.lean ====
section
/-! DEFINITION. What the Session Table and the Voucher Unit share: the delivery of a session's result,
the start of a voucher transfer, and the completion of a close (R69 to R73, R80, R81). -/

namespace Sys2Proof.Machine

/-! ## Results -/

/-- The contents of a session's SESSION RESULT (R72).  Of a NIL session the running credit, and so the
amount, is 0. -/
def Session.result (x : Session) : SessionResult :=
  { session := x.number, outcome := x.outcome, disposition := x.disposition, amount := x.credit,
    voucherNumber := x.voucherNumber, accepted := x.accepted, lineCount := x.lines.length }

/-- Form the SESSION RESULT of a session for its station and free the record (R72). -/
def State.sendResult (x : Session) (s : State) : State :=
  (s.place (.sessionResult (stationNo x.station) x.result)).freeSession x.number

/-- Deliver a session whose outcome has been decided: a SESSION RESULT where its station is OPERATING,
else AWAIT_PRINT (R72).  The order of entry into AWAIT_PRINT is kept (R73, log entry 28). -/
def State.deliver (n : Nat) (s : State) : State :=
  match s.session? n with
  | none => s
  | some x =>
    if (s.stations[x.station]).state = .operating then s.sendResult x
    else { s.onSession n fun x => { x with state := .awaitPrint } with awaiting := s.awaiting ++ [n] }

/-- Deliver every session of a station in AWAIT_PRINT, in the order of entry (R73). -/
def State.deliverAwaiting (st : Fin 8) (s : State) : State :=
  (s.awaiting.filterMap s.session?).foldl (fun t x => if x.station = st then t.sendResult x else t) s

/-! ## Starting a transfer -/

/-- The VOUCHER REQUEST of a session under a tag (R83). -/
def voucherRequestFrame (x : Session) (tag : Nat) : Frame :=
  .voucherRequest tag (stationNo x.station) x.number x.credit x.lines.length

/-- The transfer goes to REQUEST for a session and its VOUCHER REQUEST is placed; the serial of that
frame is kept as the latest of the transfer (R82, R83). -/
def State.enterRequest (n tag : Nat) (s : State) : State :=
  match s.session? n with
  | none => s
  | some x =>
    { s with transfer := .running .request n tag none (s.serial + 1) }.place
      (voucherRequestFrame x tag)

/-- Draw a new tag and begin REQUEST for a session, which is then ISSUING and holds the tag (R80, R81,
R90). -/
def State.beginRequest (n : Nat) (s : State) : State :=
  let tag := nextNumber 65535 s.tagCounter
  ({ s with tagCounter := tag }.onSession n fun x =>
    { x with state := .issuing, issueTag := some tag }).enterRequest n tag

/-- A transfer starts for the head of the voucher queue whenever the transfer record is IDLE (R81). -/
def State.startTransfer (s : State) : State :=
  match s.transfer, s.voucherQueue with
  | .idle, n :: _ => s.beginRequest n
  | _, _ => s

/-! ## Closing -/

/-- The close of a session completes (R69): by its running credit and disposition it ends NIL or
DONATED, or joins the voucher queue. -/
def State.completeClose (n : Nat) (s : State) : State :=
  match s.session? n with
  | none => s
  | some x =>
    if x.credit = 0 then
      (s.onSession n fun x => { x with outcome := some .nothing }).deliver n
    else
      match x.disposition with
      | some .donate =>
        ((s.onSession n fun x => { x with outcome := some .donated }).onTotals
          (Totals.donate x.credit)).deliver n
      | some .voucher | none =>
        { s.onSession n fun x => { x with state := .queued } with
          voucherQueue := s.voucherQueue ++ [n] }.startTransfer

/-- The close of a session in CLOSING completes once its held item count is 0 (R69). -/
def State.settle (n : Nat) (s : State) : State :=
  match s.session? n with
  | some x => if x.state = .closing ∧ x.held = 0 then s.completeClose n else s
  | none => s

/-- Close a session with a disposition: CLOSING, its idle timer stopped, and on by R69 where nothing of
it is held (R68). -/
def State.closeSession (n : Nat) (d : Disposition) (s : State) : State :=
  (s.onSession n fun x =>
    { x with state := .closing, disposition := some d, idleExpiry := none }).settle n

end Sys2Proof.Machine
end

