-- ==== Sys2Proof/Machine/Session.lean ====
section
/-! DEFINITION. The Session Table (chapter Customer Sessions): opening, the idle timer, SESSION CLOSE,
idle expiry, and the commands that read and discard sessions. -/

namespace Sys2Proof.Machine

/-! ## Opening and the idle timer -/

/-- Put a session record among the others, in order of session number. -/
def insertSession (x : Session) : List Session → List Session
  | [] => [x]
  | y :: ys => if x.number < y.number then x :: y :: ys else y :: insertSession x ys

/-- The number that the next session gets (R62). -/
def State.nextSession (s : State) : Nat :=
  freshNumber 65535 (s.sessions.map Session.number) s.lastSession

/-- A new session record (R63); its idle timer is started by `touch`. -/
def newSession (n : Nat) (st : Fin 8) (cap now : Nat) : Session :=
  { number := n, station := st, state := .opened, cap, credit := 0, accepted := 0, lines := [],
    held := 0, disposition := none, issueTag := none, voucherNumber := none, outcome := none,
    lastItem := now, idleExpiry := none }

/-- Open a session at a station (R63). -/
def State.openSession (st : Fin 8) (s : State) : State :=
  { s with
    sessions := insertSession (newSession s.nextSession st s.params.sessionCap s.now) s.sessions
    lastSession := s.nextSession }

/-- The idle expiry of a timer started at a time: none where the idle time parameter is 0 (R64). -/
def idleExpiryAt (now idleTime : Nat) : Option Nat :=
  if idleTime = 0 then none else some (now + 1000 * idleTime)

/-- Step 2 of an evaluation sets the last item time and starts the idle timer again (R29, R64). -/
def State.touch (n : Nat) (s : State) : State :=
  s.onSession n fun x =>
    { x with lastItem := s.now, idleExpiry := idleExpiryAt s.now s.params.idleTime }

/-! ## Meanings: closing -/

/-- SESSION CLOSE (R66): it acts on the OPEN session of a station in OPERATING or PAUSED. -/
def execSessionClose (src : Nat) (payload : List Byte) : State → Host.Outcome State Fault Refusal :=
  live fun s =>
    match stationIx src, (oneByte payload).bind Disposition.ofCode with
    | some st, some d =>
      match (s.stations[st]).state, s.current? st with
      | .operating, some x | .paused, some x =>
        if x.state = .opened then s.closeSession x.number d else s
      | _, _ => s
    | _, _ => s

/-- IDLE EXPIRY: the idle timer of an OPEN session has run out (R65). -/
def execIdleExpiry (session : Nat) : State → Host.Outcome State Fault Refusal :=
  live fun s =>
    match s.session? session with
    | some x =>
      match x.idleExpiry with
      | some e =>
        if x.state = .opened ∧ e ≤ s.now then s.closeSession session s.params.idleDisposition else s
      | none => s
    | none => s

/-! ## Meanings: READ SESSION (R76) -/

/-- Milliseconds left until a time. -/
def State.left (s : State) (t : Nat) : Nat := t - s.now

/-- One record of the summary form: session number, station and state (R76). -/
def Session.summary (x : Session) : List Byte :=
  be 2 x.number ++ be 1 (stationNo x.station) ++ be 1 x.state.code

/-- READ SESSION, summary form (R76; the count stands once, log entry 14). -/
def execReadSessionSummary (tag : Byte) : State → Host.Outcome State Fault Refusal :=
  live fun s =>
    s.reply tag 12 .ok (be 1 s.sessions.length ++ s.sessions.flatMap Session.summary)

/-- The record form: every field of R61 in its order except the lines, the number of lines, and the
remaining idle time, in ms (R76; R76 names no unit for it: log entry 39). -/
def Session.record (left : Option Nat) (x : Session) : List Byte :=
  be 2 x.number ++ be 1 (stationNo x.station) ++ be 1 x.state.code ++ be 3 x.cap ++
  be 3 x.credit ++ be 2 x.accepted ++ be 1 x.held ++ optBe 1 (x.disposition.map Disposition.code) ++
  optBe 3 x.issueTag ++ optBe 5 x.voucherNumber ++ optBe 1 (x.outcome.map SessionOutcome.code) ++
  msField (Config.clockReading x.lastItem) ++ be 1 x.lines.length ++ optMs left

/-- READ SESSION, record form (R76). -/
def execReadSessionRecord (tag : Byte) (session : Nat) : State → Host.Outcome State Fault Refusal :=
  live fun s =>
    if session = 0 then s.refuse tag 12 .badValue
    else
      match s.session? session with
      | none => s.refuse tag 12 .notFound
      | some x => s.reply tag 12 .ok (x.record (x.idleExpiry.map s.left))

/-- A voucher line as the lines form gives it: class, count, value (R76). -/
def VoucherLine.field (l : VoucherLine) : List Byte := be 1 l.cls.val ++ be 3 l.count ++ be 3 l.value

/-- READ SESSION, lines form (R76). -/
def execReadSessionLines (tag : Byte) (session index : Nat) :
    State → Host.Outcome State Fault Refusal :=
  live fun s =>
    if session = 0 ∨ index = 0 ∨ 15 < index then s.refuse tag 12 .badValue
    else
      match s.session? session with
      | none => s.refuse tag 12 .notFound
      | some x =>
        let ls := (x.lines.drop (index - 1)).take 8
        s.reply tag 12 .ok (be 1 ls.length ++ ls.flatMap VoucherLine.field)

/-! ## Meaning: DISCARD SESSION -/

/-- DISCARD SESSION (R75): only in AWAIT_PRINT; no SESSION RESULT is sent. -/
def execDiscardSession (tag : Byte) (session : Nat) : State → Host.Outcome State Fault Refusal :=
  live fun s =>
    if session = 0 then s.refuse tag 13 .badValue
    else
      match s.session? session with
      | none => s.refuse tag 13 .notFound
      | some x =>
        if x.state = .awaitPrint then
          (s.freeSession session).reply tag 13 .ok
            (be 1 (stationNo x.station) ++ optBe 1 (x.outcome.map SessionOutcome.code) ++
              be 3 x.credit ++ optBe 5 x.voucherNumber)
        else s.refuse tag 13 .badState

end Sys2Proof.Machine
end

