-- ==== Sys2Proof/Machine/Evaluation.lean ====
section
/-! DEFINITION. The Item Evaluator (chapter Item Evaluation and Deposit Credit): the ten steps of an
evaluation, the credit arithmetic, and the taking of items into the Referral List (R48 to R52). -/

namespace Sys2Proof.Machine

/-! ## Verdicts and held items -/

/-- A final RETURN: counted under its reason, with the number and running credit of the station's current
session where it has one (R24, R153). -/
def State.returnItem (st : Fin 8) (seq : Nat) (r : ReturnReason) (s : State) : State :=
  let x := s.current? st
  (s.countReturn r).place (.verdict (stationNo st)
    { seq, kind := .returned r, credit := none, credited := none, session := x.map Session.number,
      running := x.map Session.credit, residue := none, foreign := none })

/-- The HOLD of an item: both counts of held items rise by one (R25, R44). -/
def State.hold (w : Waiting) (s : State) : State :=
  let t := (s.setHeld w.station (s.heldCounts[w.station] + 1)).onSession w.session fun x =>
    { x with held := x.held + 1 }
  t.place (.verdict (stationNo w.station)
    { seq := w.report.seq, kind := .hold, credit := none, credited := none,
      session := some w.session, running := (s.session? w.session).map Session.credit,
      residue := none, foreign := none })

/-- A held item has left the Referral List: both counts fall by one (R25). -/
def State.unhold (w : Waiting) (s : State) : State :=
  (s.setHeld w.station (s.heldCounts[w.station] - 1)).onSession w.session fun x =>
    { x with held := x.held - 1 }

/-- A held item has got its final verdict: the counts fall, and a close that waited for it completes
(R44, R69). -/
def State.releaseItem (w : Waiting) (s : State) : State := (s.unhold w).settle w.session

/-- The limit of held items of a station kind (R25). -/
def StationKind.limit : StationKind → Nat
  | .single => 1
  | .bulk => 4
  | .crate => 1

/-- A sequence is that of one of the station's held items (R28). -/
def State.isHeld (s : State) (st : Fin 8) (seq : Nat) : Bool :=
  s.waitingItems.any fun w => w.station == st && w.report.seq == seq

/-! ## Taking items into the Referral List -/

/-- Put a referral record among the others, in order of referral number. -/
def insertReferral (r : Referral) : List Referral → List Referral
  | [] => [r]
  | x :: xs => if r.number < x.number then r :: x :: xs else x :: insertReferral r xs

/-- The number that the next referral gets (R49). -/
def State.nextReferral (s : State) : Nat :=
  freshNumber 255 (s.referrals.map Referral.number) s.lastReferral

/-- There is room for a new record with its item (R50, R51). -/
def State.referralRoom (s : State) : Bool :=
  decide (s.referrals.length < Config.maxReferrals) &&
  decide (s.waitingItems.length < Config.maxWaiting)

/-- Make a record with its first item: the REFERRAL notice goes ahead of the HOLD (R50 to R53). -/
def State.makeReferral (kind : ReferralKind) (article : Nat) (w : Waiting) (s : State) : State :=
  let r : Referral := { number := s.nextReferral, kind, article,
                        expiry := s.now + s.params.referralTimeout, waiting := [w] }
  ({ s with referrals := insertReferral r s.referrals, lastReferral := r.number }.notify
    (.referral r.number kind article w s.params.referralTimeout)).hold w

/-- A record is the MISS record of an article number (R50). -/
def Referral.isMiss (article : Nat) (r : Referral) : Bool :=
  match r.kind with
  | .miss => r.article == article
  | .decision _ => false

/-- The MISS record of the article number takes an item at its tail (R50). -/
def Referral.join (article : Nat) (w : Waiting) (r : Referral) : Referral :=
  if r.isMiss article then { r with waiting := r.waiting ++ [w] } else r

/-- An item joins a MISS record at the tail of its waiting list; no notice is sent (R50). -/
def State.joinMiss (article : Nat) (w : Waiting) (s : State) : State :=
  { s with referrals := s.referrals.map (Referral.join article w) }.hold w

/-- The request to take an item into a MISS referral; not taken, it is returned UNKNOWN (R31, R50). -/
def State.requestMiss (article : Nat) (w : Waiting) (s : State) : State :=
  if s.referrals.any (Referral.isMiss article) then
    if s.waitingItems.length < Config.maxWaiting then s.joinMiss article w
    else s.returnItem w.station w.report.seq .unknown
  else if s.referralRoom then s.makeReferral .miss article w
  else s.returnItem w.station w.report.seq .unknown

/-- The request to take an item into a DECISION referral; not taken, it is returned REFER_BUSY (R35,
R51). -/
def State.requestDecision (article : Nat) (e : Entry) (w : Waiting) (s : State) : State :=
  if s.referralRoom then s.makeReferral (.decision e) article w
  else s.returnItem w.station w.report.seq .referBusy

/-! ## Step 5: plausibility (R32 to R34) -/

/-- The material test of a container (R32). -/
def materialOk (m : Material) (r : Report) : Bool :=
  match r.signature with
  | none => true
  | some x => x == m

/-- The height test (R33). -/
def heightOk (e : Entry) (r : Report) : Bool :=
  decide (e.nominalHeight - e.heightTolerance ≤ r.height) &&
  decide (r.height ≤ e.nominalHeight + e.heightTolerance)

/-- The mass test of a container: a failing reason, or the residue mark (R34). -/
def massTest (nominal tolerance residue : Nat) (mass : Option Nat) : Except ReturnReason Bool :=
  match mass with
  | none => .ok false
  | some m =>
    if m < nominal - tolerance then .error .underweight
    else if nominal + tolerance + residue < m then .error .overweight
    else .ok (nominal + tolerance < m)

/-- Step 5: material, height and mass of a container; height of a crate (section 2.4). -/
def plausibility (e : Entry) (r : Report) : Except ReturnReason Bool :=
  match e.body with
  | .container m nominal tolerance residue _ =>
    if !materialOk m r then .error .material
    else if !heightOk e r then .error .shape
    else massTest nominal tolerance residue r.mass
  | .crate _ _ => if heightOk e r then .ok false else .error .shape

/-! ## Steps 6 to 8: what is accepted -/

/-- Own bottles of a crate with a bottle entry: how they are counted (R36, R151). -/
structure BottleCredit where
  earns : Bool
  row : Fin 5
  cls : Fin 16
  column : Column
  deriving DecidableEq, Repr

/-- The settled bottles of a crate (R36). -/
structure Bottles where
  own : Nat
  foreign : Nat
  entry : Option BottleCredit
  deriving DecidableEq, Repr

/-- An item as it goes into step 7: the working record with what steps 6 and 8, or a DECIDE answer,
settled.  `bottles` is present for kind CRATE only. -/
structure Accept where
  item : Waiting
  kind : ItemKind
  credit : Bool
  cls : Fin 16
  row : Fin 5
  column : Column
  bottles : Option Bottles
  route : RouteClass
  volume : Nat
  deriving DecidableEq, Repr

/-- The material column of an entry (R150, R151). -/
def Entry.column (e : Entry) : Column :=
  match e.body with
  | .container m _ _ _ _ => m.column
  | .crate _ _ => .crate

/-- The volume of an entry (R1, R40); a crate has none and none is used for it. -/
def Entry.volume (e : Entry) : Nat :=
  match e.body with
  | .container _ _ _ _ v => v
  | .crate _ _ => 0

/-- The bottles of a crate are settled (R36): the foreign count is clamped, the own bottles are the
rest, and a bottle entry decides under the keys whether they earn bottle credit. -/
def settleBottles (keys : Vector (Option SchemeKey) 4) (fields : Option BottleFields)
    (bottle : Option Entry) : Bottles :=
  let b := fields.getD ⟨0, 0⟩
  let foreign := min b.foreign b.present
  { own := b.present - foreign, foreign,
    entry := bottle.map fun e =>
      { earns := (bottleRights keys e).1, row := (bottleRights keys e).2, cls := e.depositClass,
        column := e.column } }

/-- The bottles of an item of a kind: settled for a CRATE, none for a CONTAINER (R23, R36). -/
def bottlesOf (keys : Vector (Option SchemeKey) 4) (kind : ItemKind) (w : Waiting) :
    Option Bottles :=
  match kind with
  | .crate => some (settleBottles keys w.report.bottles w.bottle)
  | .container => none

/-- Step 8: the route class of an entry under its accept right set (R39). -/
def routeOf (e : Entry) (set : Rights) : RouteClass :=
  match e.body with
  | .crate _ _ => .crate
  | .container m _ _ _ _ =>
    match m with
    | .pet => .pet
    | .alu | .steel => .metal
    | .glass => if set.refill then .refill else .glass

/-- The crate or container portion of the item credit (R37). -/
def State.ownPortion (s : State) (a : Accept) : Nat := if a.credit then s.classValues[a.cls] else 0

/-- The bottle portion of the item credit (R37). -/
def State.bottlePortion (s : State) (a : Accept) : Nat :=
  match a.bottles with
  | none => 0
  | some b =>
    match b.entry with
    | none => 0
    | some e => if e.earns then b.own * s.classValues[e.cls] else 0

/-- The item credit (R37). -/
def State.itemCredit (s : State) (a : Accept) : Nat := s.ownPortion a + s.bottlePortion a

/-! ## Step 10: the session add and the counts -/

/-- A share of the credited amount and a count go to the line of a class; a share of 0 for a class
without a line creates none and counts nothing (R43). -/
def addLine (cls : Fin 16) (count share : Nat) : List VoucherLine → List VoucherLine
  | [] => if share = 0 then [] else [⟨cls, count, share⟩]
  | l :: ls =>
    if cls < l.cls then (if share = 0 then l :: ls else ⟨cls, count, share⟩ :: l :: ls)
    else if cls = l.cls then { l with count := l.count + count, value := l.value + share } :: ls
    else l :: addLine cls count share ls

/-- The credited amount is allocated to the voucher lines (R43): the item's own share, then for a crate
the bottles' share.  An item that earns nothing touches no line unless it is a CREDIT container (log
entry 18). -/
def allocate (a : Accept) (own bottle : Nat) (earned : Bool) (ls : List VoucherLine) :
    List VoucherLine :=
  match a.bottles with
  | none => if a.credit then addLine a.cls 1 own ls else ls
  | some b =>
    if earned then
      let ms := if a.credit then addLine a.cls 1 own ls else ls
      match b.entry with
      | some e => if e.earns then addLine e.cls b.own bottle ms else ms
      | none => ms
    else ls

/-- The counts of an accepted item in the scheme cells (R150, R151). -/
def State.countCells (a : Accept) (own bottle : Nat) (s : State) : State :=
  let t := s.onCell a.row a.column (if a.credit then Cell.credit 1 own else Cell.take 1)
  match a.bottles with
  | none => t
  | some b =>
    match b.entry with
    | none => t
    | some e =>
      if e.earns then t.onCell e.row e.column (Cell.credit b.own bottle)
      else t.onCell 0 e.column (Cell.take b.own)

/-- The clamped foreign bottles of a crate (R36). -/
def Accept.foreign (a : Accept) : Nat := (a.bottles.map Bottles.foreign).getD 0

/-- All counts of an accepted item (R150 to R152). -/
def State.countAccepted (a : Accept) (own bottle : Nat) (s : State) : State :=
  (s.countCells a own bottle).onTotals fun t =>
    (t.residue (cond a.item.residue 1 0)).foreign a.foreign

/-- The handle that the next accepted item gets (R26). -/
def State.nextHandle (s : State) : Nat := freshNumber 65535 s.handles s.lastHandle

/-- The session add (R42): the running credit rises to at most the cap, the cut-off excess is counted,
and the credited amount, with `own` its share for the item itself, is allocated to the lines. -/
def State.sessionAdd (a : Accept) (x : Session) (s : State) : State :=
  let c := s.itemCredit a
  let r := min (x.credit + c) x.cap
  let e := x.credit + c - r
  let own := min (c - e) (s.ownPortion a)
  (s.onSession x.number fun y =>
    { y with credit := r, accepted := y.accepted + 1,
             lines := allocate a own (c - e - own) (decide (0 < c)) y.lines }).onTotals
    (Totals.excess e)

/-- The credited amount of an item in a session (R42). -/
def State.credited (s : State) (a : Accept) (x : Session) : Nat :=
  s.itemCredit a - (x.credit + s.itemCredit a - min (x.credit + s.itemCredit a) x.cap)

/-- The VERDICT of an accepted item (R24, R41). -/
def acceptVerdict (a : Accept) (x : Session) (credit credited : Nat) : Verdict :=
  { seq := a.item.report.seq, kind := if a.credit then .credit else .take, credit := some credit,
    credited := some credited, session := some x.number, running := some (x.credit + credited),
    residue := some a.item.residue, foreign := a.bottles.map Bottles.foreign }

/-- Step 10 (R41): session add, handle, drop order, counts and VERDICT, in this order, for the lane and
fill that step 9 reserved. -/
def State.accept (a : Accept) (x : Session) (i : Fin 12) (fill : Nat) (s : State) : State :=
  let amount := s.credited a x
  let own := min amount (s.ownPortion a)
  let h := s.nextHandle
  let t := { s.sessionAdd a x with lastHandle := h }.appendOrder i
    { handle := h, fill, kind := a.kind, station := a.item.station }
  (t.countAccepted a own (amount - own)).place
    (.verdict (stationNo a.item.station) (acceptVerdict a x (s.itemCredit a) amount))

/-- Step 7 fails: the session is at its cap for a credit-bearing item, or holds 9,999 items (R38). -/
def sessionFull (x : Session) (credit : Nat) : Bool :=
  decide (Config.maxAccepted ≤ x.accepted) || (decide (0 < credit) && decide (x.cap ≤ x.credit))

/-- Steps 7, 9 and 10 (R37, R38, R40, R41). -/
def State.fromCap (a : Accept) (s : State) : State :=
  match s.session? a.item.session with
  | none => s
  | some x =>
    if sessionFull x (s.itemCredit a) then s.returnItem a.item.station a.item.report.seq .sessionFull
    else
      match s.chooseLane a.route (itemFill a.kind a.volume) none with
      | none => s.returnItem a.item.station a.item.report.seq .cornerFull
      | some i =>
        let fill := itemFill a.kind a.volume s.lanes[i]
        (s.reserve i fill).accept a x i fill

/-! ## Steps 4 to 6 -/

/-- The item of an entry copy that step 6 accepted (R35, R36, R39). -/
def acceptOf (keys : Vector (Option SchemeKey) 4) (w : Waiting) (e : Entry) (set : Rights)
    (credit : Bool) (row : Fin 5) : Accept :=
  { item := w, kind := e.kind, credit, cls := e.depositClass, row, column := e.column,
    bottles := bottlesOf keys e.kind w, route := routeOf e set, volume := e.volume }

/-- What a miss or a refer outcome leads to: a referral for a new report, REFER_LOOP at a resumption
after ENTRY (R31, R35, R45). -/
inductive Asking where
  | report | resumed
  deriving DecidableEq, Repr

/-- Step 6 and on, for a working record that passed step 5 under an entry copy (R35). -/
def State.fromRights (ask : Asking) (article : Nat) (e : Entry) (w : Waiting) (s : State) : State :=
  match rightsOf s.keys e with
  | .returnRights => s.returnItem w.station w.report.seq .rights
  | .returnBlocked => s.returnItem w.station w.report.seq .blocked
  | .refer =>
    match ask with
    | .report => s.requestDecision article e w
    | .resumed => s.returnItem w.station w.report.seq .referLoop
  | .accept set credit row => s.fromCap (acceptOf s.keys w e set credit row)

/-- Step 4 and on (R31): the lookup, plausibility, and step 6. -/
def State.fromLookup (ask : Asking) (article : Nat) (w : Waiting) (s : State) : State :=
  match lookup s.articles article with
  | none =>
    match ask with
    | .report => s.requestMiss article w
    | .resumed => s.returnItem w.station w.report.seq .referLoop
  | some e =>
    match plausibility e w.report with
    | .error r => s.returnItem w.station w.report.seq r
    | .ok residue =>
      s.fromRights ask article e { w with bottle := bottleLookup s.articles e, residue }

/-! ## Steps 1 to 3 -/

/-- Step 3 and on, for the item's session (R30). -/
def State.fromCode (st : Fin 8) (session : Nat) (r : Report) (s : State) : State :=
  match r.number with
  | none => s.returnItem st r.seq .noCode
  | some article =>
    s.fromLookup .report article
      { station := st, session, report := r, bottle := none, residue := false }

/-- Step 2 and on (R29): the OPEN session of the station, or a new one. -/
def State.fromSession (st : Fin 8) (r : Report) (s : State) : State :=
  match s.current? st with
  | some x =>
    if x.state = .opened then (s.touch x.number).fromCode st x.number r
    else s.returnItem st r.seq .closed
  | none =>
    if s.sessions.length < Config.maxSessions then
      ((s.openSession st).touch s.nextSession).fromCode st s.nextSession r
    else s.returnItem st r.seq .noSessionRoom

/-- The station's count of held items equals its limit (R25, R28). -/
def State.isBusy (s : State) (st : Fin 8) : Bool :=
  match (s.stations[st]).kind with
  | some k => s.heldCounts[st] == k.limit
  | none => false

/-- Step 1 and on: the evaluation of a reported item (R27, R28). -/
def State.evaluate (st : Fin 8) (r : Report) (s : State) : State :=
  match (s.stations[st]).state with
  | .operating =>
    if s.isHeld st r.seq then s
    else if s.isBusy st then s.returnItem st r.seq .busy
    else s.fromSession st r
  | .paused => if s.isHeld st r.seq then s else s.returnItem st r.seq .paused
  | .off | .listening | .standby | .lost => s

/-- ITEM REPORT (R23, R27). -/
def execItemReport (src : Nat) (payload : List Byte) : State → Host.Outcome State Fault Refusal :=
  live fun s =>
    match stationIx src, parseReport payload with
    | some st, some r => s.evaluate st r
    | _, _ => s

end Sys2Proof.Machine
end

