-- ==== Sys2Proof/Machine/Referral.lean ====
section
/-! DEFINITION. The Referral List (chapter Article Referrals): expiry, REFERRAL ANSWER and the
resumption of its items, withdrawal, removal of a station's items, and READ REFERRALS. -/

namespace Sys2Proof.Machine

/-- Free a referral record: its number is free again and its timer stopped (R48). -/
def State.freeReferral (n : Nat) (s : State) : State :=
  { s with referrals := s.referrals.filter (·.number != n) }

/-- Give every item of a list its end, one after another: each gets its final verdict, its counts fall,
and a close that waited for it completes (R44, R53, R55, R56). -/
def State.endItems (verdict : Waiting → State → State) (ws : List Waiting) (s : State) : State :=
  ws.foldl (fun t w => (verdict w t).releaseItem w) s

/-- A final RETURN that the Referral List gives to a waiting item (R44). -/
def State.returnWaiting (r : ReturnReason) (w : Waiting) (s : State) : State :=
  s.returnItem w.station w.report.seq r

/-! ## Meanings: expiry and withdrawal -/

/-- REFERRAL EXPIRY (R53): REFER_TIMEOUT to every waiting item, the record freed, a REFERRAL ENDED
notice. -/
def execReferralExpiry (number : Nat) : State → Host.Outcome State Fault Refusal :=
  live fun s =>
    match s.referral? number with
    | some r =>
      if r.expiry ≤ s.now then
        ((s.endItems (State.returnWaiting .referTimeout) r.waiting).freeReferral number).notify
          (.referralEnded number .timeout)
      else s
    | none => s

/-- A waiting item is the item of a station and a sequence. -/
def Waiting.names (st : Fin 8) (seq : Nat) (w : Waiting) : Bool :=
  w.station == st && w.report.seq == seq

/-- A record without some of its waiting items; those behind keep their order (R48). -/
def Referral.without (gone : Waiting → Bool) (r : Referral) : Referral :=
  { r with waiting := r.waiting.filter fun w => !gone w }

/-- Take waiting items out of every waiting list, free the records left empty and place their REFERRAL
ENDED notices (R57, R58). -/
def State.removeWaiting (gone : Waiting → Bool) (cause : EndedCause) (s : State) : State :=
  let rest := s.referrals.map (Referral.without gone)
  let t : State := { s with referrals := rest.filter fun r => !r.waiting.isEmpty }
  t.placeAll ((rest.filter fun r => r.waiting.isEmpty).map fun r =>
    .notice (.referralEnded r.number cause))

/-- ITEM WITHDRAW (R57). -/
def execItemWithdraw (src : Nat) (payload : List Byte) : State → Host.Outcome State Fault Refusal :=
  live fun s =>
    match stationIx src, oneByte payload with
    | some st, some seq =>
      match s.waitingItems.find? (Waiting.names st seq) with
      | some w => ((s.unhold w).removeWaiting (Waiting.names st seq) .withdrawn).settle w.session
      | none => s
    | _, _ => s

/-! ## Leaving service -/

/-- The Referral List removes every waiting item of a station (R58). -/
def State.removeStation (st : Fin 8) (s : State) : State :=
  ((s.waitingItems.filter fun w => w.station == st).foldl (fun t w => t.unhold w) s).removeWaiting
    (fun w => w.station == st) .station

/-- The effects of leaving service, the state of the station having been changed: the Referral List
first, then the station's current session is closed or completed (R58, R67, R163). -/
def State.leaveService (st : Fin 8) (s : State) : State :=
  let t := s.removeStation st
  match t.current? st with
  | some x =>
    if x.state = .opened then t.closeSession x.number t.params.idleDisposition
    else t.settle x.number
  | none => t

/-! ## REFERRAL ANSWER -/

/-- The kind of an item resumed by DECIDE (R46): that of its entry copy, else by the route class. -/
def decidedKind (kind : ReferralKind) (route : RouteClass) : ItemKind :=
  match kind with
  | .decision e => e.kind
  | .miss => if route = .crate then .crate else .container

/-- The column of a container without an entry copy: by its signature, else by the decided route class
(R150). -/
def columnWithoutEntry (signature : Option Material) (route : RouteClass) : Column :=
  match signature with
  | some m => m.column
  | none =>
    match route with
    | .pet => .pet
    | .metal => .alu
    | .glass | .refill => .glass
    | .crate => .crate

/-- The column in which an item resumed by DECIDE is counted (R150, R151). -/
def decidedColumn (kind : ReferralKind) (route : RouteClass) (w : Waiting) : Column :=
  match kind with
  | .decision e => e.column
  | .miss => if route = .crate then .crate else columnWithoutEntry w.report.signature route

/-- An item as DECIDE CREDIT or TAKE resumes it at step 7 (R46): row 0, the decided verdict, class and
route class; 3,000 ml for a container without an entry copy. -/
def decidedAccept (keys : Vector (Option SchemeKey) 4) (kind : ReferralKind) (decided : Decided)
    (route : RouteClass) (w : Waiting) : Accept :=
  { item := w, kind := decidedKind kind route,
    credit := match decided with | .credit _ => true | .take => false,
    cls := match decided with | .credit c => c | .take => 0,
    row := 0, column := decidedColumn kind route w,
    bottles := bottlesOf keys (decidedKind kind route) w, route,
    volume := match kind with | .decision e => e.volume | .miss => Config.decidedVolume }

/-- Resume an item of a MISS record after an ENTRY answer: an evaluation from step 4 (R45). -/
def State.resumeEntry (article : Nat) (w : Waiting) (s : State) : State :=
  s.fromLookup .resumed article w

/-- Resume an item by a DECIDE answer with verdict CREDIT or TAKE (R46, R56). -/
def State.resumeDecided (kind : ReferralKind) (decided : Decided) (route : RouteClass) (w : Waiting)
    (s : State) : State :=
  s.fromCap (decidedAccept s.keys kind decided route w)

/-- A referral number that an answer may name (R54). -/
def answerNumber (n : Nat) : Bool := decide (1 ≤ n) && decide (n ≤ 255)

/-- A late ENTRY answer loads its entry all the same (R54). -/
def State.lateEntry (tag : Byte) (e : Entry) (s : State) : State :=
  match s.loadEntry e with
  | (.full, t) => t.reply tag 10 .tableFull (countField t.articles)
  | (.new, t) | (.replaced, t) => t.reply tag 10 .lateLoaded (countField t.articles)

/-- An ENTRY answer to a MISS record (R55). -/
def State.answerMiss (tag : Byte) (r : Referral) (e : Entry) (s : State) : State :=
  match s.loadEntry e with
  | (.full, t) => t.refuse tag 10 .tableFull
  | (.new, t) | (.replaced, t) =>
    let u := (t.freeReferral r.number).endItems (State.resumeEntry r.article) r.waiting
    u.reply tag 10 .ok (be 1 r.waiting.length ++ countField u.articles)

/-- REFERRAL ANSWER, ENTRY (R54, R55). -/
def execReferralAnswerEntry (tag : Byte) (number : Nat) (entry : RawEntry) :
    State → Host.Outcome State Fault Refusal :=
  live fun s =>
    match answerNumber number, checkEntry entry with
    | true, some e =>
      match s.referral? number with
      | none => s.lateEntry tag e
      | some r =>
        match r.kind with
        | .decision _ => s.refuse tag 10 .badState
        | .miss => s.answerMiss tag r e
    | _, _ => s.refuse tag 10 .badValue

/-- The decision of a DECIDE answer (R54). -/
inductive Decision where
  | accept (decided : Decided) (route : RouteClass)
  | refuse
  deriving DecidableEq, Repr

/-- The fields of a DECIDE answer, checked (R54): class and route class of a RETURN are not checked, nor
is the class of a TAKE (log entry 22). -/
def checkDecision (verdict cls route : Nat) : Option Decision :=
  match verdict with
  | 0 =>
    if h : cls < 16 then (RouteClass.ofCode route).map (.accept (.credit ⟨cls, h⟩)) else none
  | 1 => (RouteClass.ofCode route).map (.accept .take)
  | 2 => some .refuse
  | _ => none

/-- The route class of a DECIDE CREDIT or TAKE agrees with the kind of the entry snapshot (R54). -/
def routeAgrees (kind : ReferralKind) (route : RouteClass) : Bool :=
  match kind with
  | .miss => true
  | .decision e => (e.kind == .crate) == (route == .crate)

/-- Carry out a DECIDE answer for a record: the record goes, each item in list order gets its verdict,
then the REPLY (R56). -/
def State.resolve (tag : Byte) (r : Referral) (verdict : Waiting → State → State)
    (s : State) : State :=
  ((s.freeReferral r.number).endItems verdict r.waiting).reply tag 10 .ok (be 1 r.waiting.length)

/-- REFERRAL ANSWER, DECIDE (R54, R56). -/
def execReferralAnswerDecide (tag : Byte) (number verdict cls route : Nat) :
    State → Host.Outcome State Fault Refusal :=
  live fun s =>
    match answerNumber number, checkDecision verdict cls route with
    | true, some d =>
      match s.referral? number with
      | none => s.refuse tag 10 .late
      | some r =>
        match d with
        | .refuse => s.resolve tag r (State.returnWaiting .referRefused)
        | .accept decided route =>
          if routeAgrees r.kind route then s.resolve tag r (State.resumeDecided r.kind decided route)
          else s.refuse tag 10 .badValue
    | _, _ => s.refuse tag 10 .badValue

/-! ## READ REFERRALS (R59) -/

/-- A waiting item of READ REFERRALS: station, item sequence and session number. -/
def Waiting.field (w : Waiting) : List Byte :=
  be 1 (stationNo w.station) ++ be 1 w.report.seq ++ be 2 w.session

/-- A record of READ REFERRALS, with the milliseconds left until its expiry. -/
def Referral.field (left : Nat) (r : Referral) : List Byte :=
  be 1 r.number ++ be 1 r.kind.code ++ be 6 r.article ++ r.kind.entryKey ++ msField left ++
  be 1 r.waiting.length ++ r.waiting.flatMap Waiting.field

/-- READ REFERRALS (R59). -/
def execReadReferrals (tag : Byte) : State → Host.Outcome State Fault Refusal :=
  live fun s =>
    s.reply tag 11 .ok (be 1 s.referrals.length ++ be 1 s.waitingItems.length ++
      be 1 s.referrals.length ++ s.referrals.flatMap fun r => r.field (s.left r.expiry))

end Sys2Proof.Machine
end

