-- ==== Sys2Proof/Machine/Station.lean ====
section
/-! DEFINITION. The Station Supervisor (chapter Station Supervision): ANNOUNCE, attach, loss, STATION GO,
and READ STATUS of a station and of a lane. -/

namespace Sys2Proof.Machine

/-! ## ANNOUNCE and attach -/

/-- The ANNOUNCE counted as the first of a run (R160). -/
def Station.countFirst (now : Nat) (k : StationKind) (x : Station) : Station :=
  { x with attachCount := 1, attachKind := some k, lastAnnounce := some now }

/-- The ANNOUNCE counted as the second of a run (R160). -/
def Station.countSecond (now : Nat) (x : Station) : Station :=
  { x with attachCount := 2, lastAnnounce := some now }

/-- Attach at the third ANNOUNCE of a run, which names the kind `k` (R160). -/
def Station.attach (now : Nat) (k : StationKind) (x : Station) : Station :=
  { x with state := .standby, kind := some k, attachCount := 0, attachKind := none,
           lastAnnounce := some now, silenceExpiry := some (now + Config.silenceTime),
           changed := true }

/-- The last announce time lies more than 750 ms back (R160, R167). -/
def Station.gapTooLong (now : Nat) (x : Station) : Bool :=
  match x.lastAnnounce with
  | some t => decide (t + Config.attachGap < now)
  | none => false

/-- An ANNOUNCE in LISTENING (R160). -/
def State.countAnnounce (st : Fin 8) (k : StationKind) (s : State) : State :=
  let x := s.stations[st]
  if x.attachCount = 0 ∨ x.gapTooLong s.now ∨ x.attachKind ≠ some k then
    s.setStation st (x.countFirst s.now k)
  else if x.attachCount = 1 then s.setStation st (x.countSecond s.now)
  else
    (s.setStation st (x.attach s.now k)).notify
      (.stationChange (stationNo st) .listening .standby .attach (some k) none)

/-! ## Loss -/

/-- A station goes to LOST (R162): state, loss cause, silence timer and changed flag, then the effects of
leaving service, then the notice.  The last announce time stays also where an ANNOUNCE of another kind
loses the station (log entry 41). -/
def State.lose (st : Fin 8) (loss : LossCause) (cause : ChangeCause) (announced : Option StationKind)
    (s : State) : State :=
  let x := s.stations[st]
  ((s.setStation st
    { x.enter .lost with lossCause := some loss, silenceExpiry := none }).leaveService st).notify
      (.stationChange (stationNo st) x.state .lost cause x.kind announced)

/-- An ANNOUNCE in STANDBY, OPERATING or PAUSED: the recorded kind moves the silence expiry, another kind
loses the station (R159, R161, R162). -/
def State.hearAnnounce (st : Fin 8) (k : StationKind) (s : State) : State :=
  let x := s.stations[st]
  if x.kind = some k then
    s.setStation st { x with lastAnnounce := some s.now,
                             silenceExpiry := some (s.now + Config.silenceTime) }
  else s.lose st .kind .kind (some k)

/-- ANNOUNCE (R159). -/
def execAnnounce (src : Nat) (payload : List Byte) : State → Host.Outcome State Fault Refusal :=
  live fun s =>
    match stationIx src, (oneByte payload).bind StationKind.ofCode with
    | some st, some k =>
      match (s.stations[st]).state with
      | .listening => s.countAnnounce st k
      | .standby | .operating | .paused => s.hearAnnounce st k
      | .off | .lost => s
    | _, _ => s

/-- A station in STANDBY, OPERATING or PAUSED has a silence timer (R161). -/
def StationState.attached : StationState → Bool
  | .standby | .operating | .paused => true
  | .off | .listening | .lost => false

/-- SILENCE EXPIRY (R161, R162). -/
def execSilenceExpiry (station : Nat) : State → Host.Outcome State Fault Refusal :=
  live fun s =>
    match stationIx station with
    | some st =>
      match (s.stations[st]).silenceExpiry with
      | some e =>
        if (s.stations[st]).state.attached ∧ e ≤ s.now then s.lose st .silent .silent none else s
      | none => s
    | none => s

/-! ## STATION GO (R164, R165) -/

/-- Enter a state that a STATION MODE frame announces (R165). -/
def State.enterMode (st : Fin 8) (mode : StationState) (s : State) : State :=
  (s.setStation st ((s.stations[st]).enter mode)).place
    (.stationMode (stationNo st) mode (s.stations[st]).kind)

/-- STATION GO LISTEN (R164). -/
def execStationGoListen (tag : Byte) (station : Nat) : State → Host.Outcome State Fault Refusal :=
  live fun s =>
    match stationIx station with
    | none => s.refuse tag 24 .badValue
    | some st =>
      let x := s.stations[st]
      match x.state with
      | .off | .lost =>
        (s.setStation st { x.enter .listening with
          attachCount := 0, attachKind := none, lossCause := none }).reply tag 24 .ok []
      | .listening | .standby | .operating | .paused => s.refuse tag 24 .badState

/-- STATION GO OPERATE (R164, R165): after the STATION MODE frame the results that waited are
delivered. -/
def execStationGoOperate (tag : Byte) (station : Nat) : State → Host.Outcome State Fault Refusal :=
  live fun s =>
    match stationIx station with
    | none => s.refuse tag 24 .badValue
    | some st =>
      match (s.stations[st]).state with
      | .standby | .paused => ((s.enterMode st .operating).deliverAwaiting st).reply tag 24 .ok []
      | .off | .listening | .operating | .lost => s.refuse tag 24 .badState

/-- STATION GO PAUSE (R164, R165). -/
def execStationGoPause (tag : Byte) (station : Nat) : State → Host.Outcome State Fault Refusal :=
  live fun s =>
    match stationIx station with
    | none => s.refuse tag 24 .badValue
    | some st =>
      match (s.stations[st]).state with
      | .operating => (s.enterMode st .paused).reply tag 24 .ok []
      | .off | .listening | .standby | .paused | .lost => s.refuse tag 24 .badState

/-- Turn a station off from any state but OFF: from STANDBY, OPERATING and PAUSED with the effects of
leaving service before the STATION MODE OFF (R163, R164, R165). -/
def State.turnOff (st : Fin 8) (s : State) : State :=
  let x := s.stations[st]
  let t := match x.state with
    | .listening => s.setStation st { x.enter .off with attachCount := 0, attachKind := none }
    | .standby | .operating | .paused =>
      (s.setStation st { x.enter .off with silenceExpiry := none }).leaveService st
    | .lost => s.setStation st { x.enter .off with lossCause := none }
    | .off => s
  t.place (.stationMode (stationNo st) .off x.kind)

/-- STATION GO OFF (R164). -/
def execStationGoOff (tag : Byte) (station : Nat) : State → Host.Outcome State Fault Refusal :=
  live fun s =>
    match stationIx station with
    | none => s.refuse tag 24 .badValue
    | some st =>
      if (s.stations[st]).state = .off then s.reply tag 24 .ok []
      else (s.turnOff st).reply tag 24 .ok []

/-! ## READ STATUS (R116, R167, R177) -/

/-- Number of a station's sessions in AWAIT_PRINT (R167). -/
def State.awaitingCount (s : State) (st : Fin 8) : Nat :=
  (s.sessions.filter fun x => x.station == st && x.state == .awaitPrint).length

/-- The answer of READ STATUS naming a station, in the order of R167. -/
def State.stationStatus (s : State) (st : Fin 8) : List Byte :=
  let x := s.stations[st]
  let count := if x.gapTooLong s.now then 0 else x.attachCount
  let c := s.current? st
  be 1 x.state.code ++ optBe 1 (x.kind.map StationKind.code) ++
  optBe 1 (x.lossCause.map LossCause.code) ++ be 1 count ++
  optBe 1 (if count = 0 then none else x.attachKind.map StationKind.code) ++
  optMs (x.lastAnnounce.map fun t => s.now - t) ++ optMs (x.silenceExpiry.map s.left) ++
  be 1 s.heldCounts[st] ++ optBe 1 (x.kind.map StationKind.limit) ++
  optBe 3 (c.map Session.number) ++ optBe 1 (c.map fun y => y.state.code) ++
  be 1 (s.awaitingCount st) ++ markByte x.changed

/-- READ STATUS of a station (R167): nothing changes but the changed flag, which is cleared. -/
def execReadStatusStation (tag : Byte) (station : Nat) : State → Host.Outcome State Fault Refusal :=
  live fun s =>
    match stationIx station with
    | none => s.refuse tag 20 .badValue
    | some st =>
      (s.setStation st { s.stations[st] with changed := false }).reply tag 20 .ok (s.stationStatus st)

/-- The answer of READ STATUS naming a lane, in the order of R116. -/
def laneStatus (l : Lane) (p : Pipeline) : List Byte :=
  be 1 l.kind.code ++ be 1 l.route.code ++ be 2 l.capacity ++ be 1 l.factor ++ be 1 l.warn ++
  markByte l.mask ++ be 1 l.state.code ++ optBe 1 (l.state.restReturn.map RunState.code) ++
  optBe 1 l.state.swapReturnCode ++ be 2 l.committed ++ be 2 l.reserved ++ be 2 l.room ++
  markByte l.nearlyFull ++ be 1 l.thermal.code ++ markByte (!l.binPresent) ++
  be 2 l.fillAtRemoval ++ be 4 l.itemsSince ++ be 1 p.queue.length ++
  optBe 3 (p.staged.map Order.handle) ++ optBe 3 (p.dropping.map fun d => d.order.handle) ++
  be 1 (resultCode p.last) ++ be 1 (resultCode p.beforeLast) ++ markByte l.changed

/-- The answer of READ STATUS naming lane 0 (R116). -/
def State.overflowStatus (s : State) : List Byte :=
  be 4 s.overflow.fill ++ be 4 s.overflow.items ++ markByte s.overflow.high ++
  be 2 s.params.overflowCapacity

/-- READ STATUS of a lane, or of the overflow lane as lane 0 (R116). -/
def execReadStatusLane (tag : Byte) (lane : Nat) : State → Host.Outcome State Fault Refusal :=
  live fun s =>
    if lane = 0 then s.reply tag 20 .ok s.overflowStatus
    else
      match laneIx lane with
      | none => s.refuse tag 20 .badValue
      | some i =>
        (s.setLane i { s.lanes[i] with changed := false }).reply tag 20 .ok
          (laneStatus s.lanes[i] s.pipes[i])

end Sys2Proof.Machine
end

