-- ==== Sys2Proof/Machine/Management.lean ====
section
/-! DEFINITION. The Management Decoder's own share, and the reads of the Stroke Budget and of the Clearing
Counters: unknown commands, the parameter set, READ BUDGET, READ COUNTERS and READ AND CLEAR. -/

namespace Sys2Proof.Machine

/-- A COMMAND whose code names no command, whose choice names none, or whose arguments are too short or
too long (R174, R175): BAD_VALUE and no change.  The table commands carry the entry count also then
(R3, log entry 13). -/
def execCommandUnknown (tag : Byte) (code : Nat) : State → Host.Outcome State Fault Refusal :=
  live fun s =>
    if code = 1 ∨ code = 2 ∨ code = 4 then s.reply tag code .badValue (countField s.articles)
    else s.refuse tag code .badValue

/-! ## The parameter set (R146, R178) -/

/-- A value clamped to a range. -/
def clamp (low high v : Nat) : Nat := max low (min high v)

/-- The session idle time as it is stored (R178). -/
def clampIdle (v : Nat) : Nat := if v = 0 then 0 else clamp 30 600 v

/-- Carry out a SET PARAMETER: the new parameter set and the value in force with its width. -/
def Parameters.set (number value : Nat) (p : Parameters) : Option (Parameters × List Byte) :=
  match number with
  | 1 => let v := clamp 100 999999 value; some ({ p with sessionCap := v }, be 3 v)
  | 2 => let v := clampIdle value; some ({ p with idleTime := v }, be 2 v)
  | 3 => (Disposition.ofCode value).map fun d => ({ p with idleDisposition := d }, be 1 d.code)
  | 4 => let v := clamp 1000 30000 value; some ({ p with referralTimeout := v }, be 2 v)
  | 5 => let v := clamp 500 10000 value; some ({ p with dropTimeout := v }, be 2 v)
  | 6 => let v := clamp 500 10000 value; some ({ p with voucherTimeout := v }, be 2 v)
  | 9 => let v := clamp 10 20000 value; some ({ p with overflowCapacity := v }, be 2 v)
  | _ => none

/-- The stroke budget or the stroke window is set, by the Stroke Budget: refused while the list holds a
record (R146). -/
def State.setStroke (tag : Byte) (parameter : StrokeParameter) (value : Nat) (s : State) : State :=
  if s.strokes.isEmpty then
    match parameter with
    | .budget =>
      let v := clamp 1 12 value
      { s with params := { s.params with budget := v } }.reply tag 25 .ok (be 1 v)
    | .window =>
      let v := clamp 1000 10000 value
      { s with params := { s.params with window := v } }.reply tag 25 .ok (be 2 v)
  else s.refuse tag 25 .notIdle

/-- SET PARAMETER (R178).  A parameter number 7 or 8 goes to the Stroke Budget (log entry 32). -/
def execSetParameter (tag : Byte) (number value : Nat) : State → Host.Outcome State Fault Refusal :=
  live fun s =>
    match number with
    | 7 => s.setStroke tag .budget value
    | 8 => s.setStroke tag .window value
    | n =>
      match s.params.set n value with
      | some (p, inForce) => { s with params := p }.reply tag 25 .ok inForce
      | none => s.refuse tag 25 .badValue

/-- SET PARAMETER of the stroke budget or the stroke window (R146). -/
def execSetParameterStroke (tag : Byte) (parameter : StrokeParameter) (value : Nat) :
    State → Host.Outcome State Fault Refusal :=
  live (State.setStroke tag parameter value)

/-- All nine parameters in the order of the table of R178. -/
def Parameters.bytes (p : Parameters) : List Byte :=
  be 3 p.sessionCap ++ be 2 p.idleTime ++ be 1 p.idleDisposition.code ++ be 2 p.referralTimeout ++
  be 2 p.dropTimeout ++ be 2 p.voucherTimeout ++ be 1 p.budget ++ be 2 p.window ++
  be 2 p.overflowCapacity

/-- READ PARAMETERS (R178). -/
def execReadParameters (tag : Byte) : State → Host.Outcome State Fault Refusal :=
  live fun s => s.reply tag 26 .ok s.params.bytes

/-! ## READ BUDGET (R147) -/

/-- A stroke record of READ BUDGET: lane, weight and milliseconds left. -/
def State.strokeField (s : State) (r : Stroke) : List Byte :=
  be 1 (laneNo r.lane) ++ be 1 r.weight ++ msField (s.left (r.time + s.params.window))

/-- The lanes with a request waiting, in order of lane number (R147). -/
def State.waitingLanes (s : State) : List (Fin 12) := allLanes.filter fun i => (s.pipes[i]).request

/-- A waiting lane of READ BUDGET, with the weight it would use; OVER has none and is not reached by a
waiting lane (log entry 37). -/
def State.requestField (s : State) (i : Fin 12) : List Byte :=
  be 1 (laneNo i) ++ optBe 1 (s.weight? i)

/-- READ BUDGET (R147).  The candidate field gives the first waiting lane in turn also while the feed
fault is asserted, where a consideration would end before it finds one (log entry 40). -/
def execReadBudget (tag : Byte) : State → Host.Outcome State Fault Refusal :=
  live fun s =>
    s.reply tag 21 .ok
      (be 1 s.params.budget ++ be 2 s.params.window ++ markByte s.feedFault ++
        be 1 (laneNo s.pointer) ++ be 1 s.strokeSum ++ be 1 s.strokes.length ++
        s.strokes.flatMap s.strokeField ++ be 1 s.waitingLanes.length ++
        s.waitingLanes.flatMap s.requestField ++ optBe 1 (s.candidate?.map laneNo))

/-! ## Clearing counters (R155) -/

/-- The three counters of a cell. -/
def Cell.bytes (c : Cell) : List Byte := be 4 c.credited ++ be 4 c.taken ++ be 5 c.value

/-- The fifteen counters of a row, column by column. -/
def Row.bytes (r : Row) : List Byte :=
  r.pet.bytes ++ r.alu.bytes ++ r.steel.bytes ++ r.glass.bytes ++ r.crate.bytes

/-- The twelve corner totals in the order of R152. -/
def Totals.bytes (t : Totals) : List Byte :=
  be 4 t.issuedCount ++ be 5 t.issuedValue ++ be 4 t.donationCount ++ be 5 t.donationValue ++
  be 4 t.cancelledCount ++ be 5 t.cancelledValue ++ be 5 t.capExcess ++ be 5 t.resetDiscarded ++
  be 4 t.residueMarked ++ be 4 t.foreignBottles ++ be 4 t.overflowItems ++ be 4 t.overflowFill

/-- The group that a group number names: a scheme row, the corner totals or the returned counts
(R155, R182). -/
inductive CounterGroup where
  | row (r : Fin 5) | totals | returned
  deriving DecidableEq, Repr

def CounterGroup.ofCode (g : Nat) : Option CounterGroup :=
  if h : g < 5 then some (.row ⟨g, h⟩)
  else if g = 5 then some .totals
  else if g = 6 then some .returned
  else none

/-- Every counter of a group (R155). -/
def State.groupBytes (s : State) : CounterGroup → List Byte
  | .row r => (s.rows[r]).bytes
  | .totals => s.totals.bytes
  | .returned => s.returned.toList.flatMap (be 4)

/-- Set every counter of a group to 0 (R155). -/
def State.clearGroup (g : CounterGroup) (s : State) : State :=
  match g with
  | .row r => { s with rows := s.rows.set r.val Row.zero r.isLt }
  | .totals => { s with totals := Totals.zero }
  | .returned => { s with returned := Vector.replicate 19 0 }

/-- READ COUNTERS (R155). -/
def execReadCounters (tag : Byte) (group : Nat) : State → Host.Outcome State Fault Refusal :=
  live fun s =>
    match CounterGroup.ofCode group with
    | some g => s.reply tag 22 .ok (s.groupBytes g)
    | none => s.refuse tag 22 .badValue

/-- READ AND CLEAR (R155): the answer is formed from the counters as they stood. -/
def execReadAndClear (tag : Byte) (group : Nat) : State → Host.Outcome State Fault Refusal :=
  live fun s =>
    match CounterGroup.ofCode group with
    | some g => (s.clearGroup g).reply tag 23 .ok (s.groupBytes g)
    | none => s.refuse tag 23 .badValue

end Sys2Proof.Machine
end

