-- ==== Sys2Proof/Machine/Reset.lean ====
section
/-! DEFINITION. The RESET and FEEDFLT lines, and CORNER RESET (R145, R148, R179, R180). -/

namespace Sys2Proof.Machine

/-! ## FEEDFLT (R145) -/

/-- The FEEDFLT line is at a level.  A change sets the feed-fault state and places a FEED FAULT notice;
a change to clear makes a consideration.  While RESET is asserted only the level is held (R180, log
entry 10). -/
def State.feedLevel (level : Bool) (s : State) : State :=
  let t := { s with feedLine := level }
  if s.resetAsserted || s.feedLine == level then t
  else
    let u := { t with feedFault := level }.notify (.feedFault level s.strokeSum)
    if level then u else u.consider

/-- FEEDFLT ASSERT (R145). -/
def execFeedfltAssert (s : State) : Host.Outcome State Fault Refusal := .next (s.feedLevel true)

/-- FEEDFLT CLEAR (R145). -/
def execFeedfltClear (s : State) : Host.Outcome State Fault Refusal := .next (s.feedLevel false)

/-! ## RESET (R180) -/

/-- HARDWARE RESET: the RESET line is asserted.  Both ports stop, their frames are lost, and no timer
runs (R180, log entry 10). -/
def execHardwareReset (s : State) : Host.Outcome State Fault Refusal :=
  .next { s with resetAsserted := true, front := Port.reset, back := Port.reset }

/-- The part right after a release of RESET: hardware-reset values; the line FEEDFLT, the model's clock,
its two counters and the queue of commands go on (R148, R180). -/
def State.released (s : State) : State :=
  { State.reset with pending := s.pending, now := s.now, serial := s.serial, draws := s.draws,
                     feedLine := s.feedLine, feedFault := s.feedLine }

/-- RESET RELEASE: hardware-reset values, and a FEED FAULT notice where FEEDFLT is asserted (R148,
R180). -/
def execResetRelease (s : State) : Host.Outcome State Fault Refusal :=
  .next <|
    if s.resetAsserted then
      if s.feedLine then s.released.notify (.feedFault true 0) else s.released
    else s

/-! ## CORNER RESET (R179) -/

/-- Every waiting item is given RETURN RESET, record by record in order of number, and the records are
freed (R47, R60). -/
def State.resetReferrals (s : State) : State :=
  let t := s.waitingItems.foldl (fun t w => t.returnWaiting .reset w) s
  { t with referrals := [], heldCounts := Vector.replicate 8 0 }

/-- The running credit that CORNER RESET discards: that of every record not in AWAIT_PRINT (R77). -/
def State.discarded (s : State) : Nat :=
  ((s.sessions.filter fun x => x.state != .awaitPrint).map Session.credit).sum

/-- The Session Table is emptied (R77). -/
def State.resetSessions (s : State) : State :=
  { s.onTotals (Totals.discard s.discarded) with sessions := [], awaiting := [] }

/-- A frame of the Voucher Unit (R83, R84, R87, R89). -/
def Frame.ofVoucherUnit : Frame → Bool
  | .voucherRequest _ _ _ _ _ | .voucherLines _ _ _ _ | .statusQuery _ _ => true
  | .notice n => match n with | .voucherStopped _ _ _ _ _ _ => true | _ => false
  | _ => false

/-- A frame of a Drop Pipeline (R134). -/
def Frame.ofPipeline : Frame → Bool
  | .dropOrder _ _ _ _ _ | .dropGo _ _ => true
  | _ => false

/-- Give up the frames of a port that are held for room and of a given sort (R173). -/
def Port.giveUp (sort : Frame → Bool) (p : Port) : Port :=
  { p with held := p.held.filter fun q => !sort q.frame }

/-- The Voucher Unit goes to IDLE (R95). -/
def State.resetVoucher (s : State) : State :=
  { s with voucherQueue := [], transfer := .idle, front := s.front.giveUp Frame.ofVoucherUnit }

/-- The orders of a lane go to overflow: dropping, staged, then queue from oldest; its request is
withdrawn and its results are none (R118, R136). -/
def State.emptyPipe (i : Fin 12) (s : State) : State :=
  (s.pipes[i]).orders.foldl (fun t o => t.toOverflow i o) (s.setPipe i Pipeline.reset)

/-- A lane not already CLOSED goes to CLOSED (R102, R118). -/
def State.closeLane (i : Fin 12) (s : State) : State :=
  if (s.lanes[i]).state = .closed then s else (s.storeLaneState i .closed).placeLaneMode i

/-- The pipelines are emptied to overflow, the lanes go to CLOSED, and every nearly-full mark is tested
(R118, R136, log entry 30). -/
def State.resetLanes (s : State) : State :=
  let t : State := { s with back := s.back.giveUp Frame.ofPipeline }
  let u := allLanes.foldl (fun t i => t.emptyPipe i) t
  let v := allLanes.foldl (fun t i => t.closeLane i) u
  allLanes.foldl (fun t i => t.testNearlyFull i) v

/-- A station in OPERATING or PAUSED goes to STANDBY (R169). -/
def Station.toStandby (x : Station) : Station :=
  match x.state with
  | .operating | .paused => x.enter .standby
  | .off | .listening | .standby | .lost => x

/-- The effects of CORNER RESET in the order of R179. -/
def State.resetCorner (s : State) : State :=
  let t := s.resetReferrals.resetSessions.resetVoucher.resetLanes
  { t with strokes := [], stations := t.stations.map Station.toStandby }

/-- CORNER RESET (R179): the REPLY stands behind every frame of the effects. -/
def execCornerReset (tag : Byte) : State → Host.Outcome State Fault Refusal :=
  live fun s => s.resetCorner.reply tag 27 .ok []

end Sys2Proof.Machine
end

