-- ==== Sys2Proof/Machine/Voucher.lean ====
section
/-! DEFINITION. The Voucher Unit (chapter Voucher Issue): the three phases of a transfer, stopping,
completion, VOUCHER CONTROL and READ VOUCHER. -/

namespace Sys2Proof.Machine

/-! ## Phases -/

/-- The VOUCHER LINES frames of n lines: the whole part of n ÷ 4, plus one, of up to four lines each,
the last with fewer than four (R84). -/
def lineFrames (n tag : Nat) (lines : List VoucherLine) : List Frame :=
  (List.range (lines.length / 4 + 1)).map fun k =>
    .voucherLines tag n (k + 1) ((lines.drop (4 * k)).take 4)

/-- Entry into DATA: the VOUCHER LINES frames are produced; with the last of them placed the transfer
goes to STATUS, while it is held for room the transfer stays in DATA (R84). -/
def State.enterData (n tag : Nat) (s : State) : State :=
  match s.session? n with
  | none => s
  | some x =>
    let t := s.placeAll (lineFrames n tag x.lines)
    let waits := t.front.held.any (·.serial == t.serial)
    { t with transfer := .running (if waits then .data else .status) n tag none t.serial }

/-- Entry into STATUS by RESUME: a STATUS QUERY is placed (R89). -/
def State.enterStatus (n tag : Nat) (s : State) : State :=
  { s with transfer := .running .status n tag none (s.serial + 1) }.place (.statusQuery tag n)

/-- The running transfer stops: its phase and the cause are kept, the reply timer is stopped, and a
VOUCHER STOPPED notice is placed (R87). -/
def State.stopTransfer (cause : StopCause) (s : State) : State :=
  match s.transfer with
  | .running phase n tag _ _ =>
    match s.session? n with
    | some x =>
      { s with transfer := .stopped phase cause n tag }.notify
        (.voucherStopped n (stationNo x.station) x.credit tag phase cause)
    | none => s
  | .idle | .stopped _ _ _ _ => s

/-- The head leaves the voucher queue with its session's outcome decided and counted: delivery, then the
start of the next head if there is one (R86, R91). -/
def State.endTransfer (n : Nat) (f : Session → Session) (count : Totals → Totals)
    (s : State) : State :=
  let t := ((s.onSession n f).onTotals count).deliver n
  { t with voucherQueue := t.voucherQueue.tail, transfer := .idle }.startTransfer

/-- The running credit of a session, which is the amount of its voucher (R70). -/
def State.amount (s : State) (n : Nat) : Nat := ((s.session? n).map Session.credit).getD 0

/-! ## Meanings: till bridge and timer -/

/-- The till bridge's front-link address (R170). -/
def tillBridge : Nat := 14

/-- REQUEST ACCEPTED (R83, R93). -/
def execRequestAccepted (src : Nat) (payload : List Byte) :
    State → Host.Outcome State Fault Refusal :=
  live fun s =>
    if src = tillBridge then
      match s.transfer, parseTag payload with
      | .running .request n tag _ _, some t =>
        if t = tag then s.enterData n tag else s.stopTransfer .tag
      | _, _ => s
    else s

/-- The checks of a VOUCHER STATUS in their order (R85): the first that fails is the stop cause, and
passing all of them gives the voucher number. -/
def checkStatus (tag : Nat) (payload : List Byte) : Except StopCause Nat :=
  match fields [2, 2, 1, 5, 6] payload with
  | some [marker, t, outcome, number, _] =>
    if marker ≠ 0x5653 then .error .marker
    else if t ≠ tag then .error .tag
    else if outcome ≠ 0 then .error (.refusedByTill outcome)
    else if Config.maxValue < number then .error .number
    else .ok number
  | _ => .error .length

/-- VOUCHER STATUS (R85, R86, R93). -/
def execVoucherStatus (src : Nat) (payload : List Byte) :
    State → Host.Outcome State Fault Refusal :=
  live fun s =>
    if src = tillBridge then
      match s.transfer with
      | .running .status n tag _ _ =>
        match checkStatus tag payload with
        | .error cause => s.stopTransfer cause
        | .ok number =>
          s.endTransfer n
            (fun x => { x with voucherNumber := some number, outcome := some .issued })
            (Totals.issue (s.amount n))
      | _ => s
    else s

/-- REPLY TIMER EXPIRY: the transfer stops with cause TIMEOUT (R82). -/
def execReplyTimerExpiry : State → Host.Outcome State Fault Refusal :=
  live fun s =>
    match s.transfer with
    | .running _ _ _ (some e) _ => if e ≤ s.now then s.stopTransfer .timeout else s
    | _ => s

/-! ## Meanings: VOUCHER CONTROL (R88) -/

/-- RESUME, RESTART and CANCEL act on a stopped transfer of the named session; the tests of R88 that
come before, in their order. -/
def State.onStopped (tag : Byte) (session : Nat) (act : Phase → Nat → State → State)
    (s : State) : State :=
  if session = 0 then s.refuse tag 14 .badValue
  else
    match s.transfer with
    | .stopped phase _ n issueTag =>
      if n = session then act phase issueTag s else s.refuse tag 14 .notFound
    | .idle | .running _ _ _ _ _ => s.refuse tag 14 .badState

/-- The stopped phase is repeated with the same tag (R89). -/
def State.resumePhase (phase : Phase) (session issueTag : Nat) (s : State) : State :=
  match phase with
  | .request => s.enterRequest session issueTag
  | .data => s.enterData session issueTag
  | .status => s.enterStatus session issueTag

/-- VOUCHER CONTROL RESUME (R89). -/
def execVoucherControlResume (tag : Byte) (session : Nat) :
    State → Host.Outcome State Fault Refusal :=
  live (State.onStopped tag session fun phase issueTag s =>
    (s.resumePhase phase session issueTag).reply tag 14 .ok [])

/-- VOUCHER CONTROL RESTART (R90): the REPLY carries the new tag. -/
def execVoucherControlRestart (tag : Byte) (session : Nat) :
    State → Host.Outcome State Fault Refusal :=
  live (State.onStopped tag session fun _ _ s =>
    let t := s.beginRequest session
    t.reply tag 14 .ok (be 2 t.tagCounter))

/-- VOUCHER CONTROL CANCEL (R91). -/
def execVoucherControlCancel (tag : Byte) (session : Nat) :
    State → Host.Outcome State Fault Refusal :=
  live (State.onStopped tag session fun _ _ s =>
    (s.endTransfer session (fun x => { x with outcome := some .cancelled })
      (Totals.cancel (s.amount session))).reply tag 14 .ok [])

/-- A VOUCHER LINES frame. -/
def Frame.isLines : Frame → Bool
  | .voucherLines _ _ _ _ => true
  | _ => false

/-- VOUCHER LINES frames not yet placed are not placed (R84, R92). -/
def State.dropHeldLines (s : State) : State :=
  s.onPort .front fun p => { p with held := p.held.filter fun q => !q.frame.isLines }

/-- VOUCHER CONTROL ABORT (R92). -/
def execVoucherControlAbort (tag : Byte) (session : Nat) :
    State → Host.Outcome State Fault Refusal :=
  live fun s =>
    if session = 0 then s.refuse tag 14 .badValue
    else
      match s.transfer with
      | .running phase n _ _ _ =>
        if n = session then
          ((if phase = .data then s.dropHeldLines else s).stopTransfer .aborted).reply tag 14 .ok []
        else s.refuse tag 14 .notRunning
      | .idle | .stopped _ _ _ _ => s.refuse tag 14 .notRunning

/-! ## Meaning: READ VOUCHER (R94) -/

/-- The session that the transfer record holds (R79). -/
def Transfer.session? : Transfer → Option Nat
  | .idle => none
  | .running _ n _ _ _ | .stopped _ _ n _ => some n

/-- The tag that the transfer record holds (R79). -/
def Transfer.tag? : Transfer → Option Nat
  | .idle => none
  | .running _ _ tag _ _ | .stopped _ _ _ tag => some tag

/-- The stopped phase and the stop cause (R79). -/
def Transfer.stop? : Transfer → Option (Phase × StopCause)
  | .stopped phase cause _ _ => some (phase, cause)
  | .idle | .running _ _ _ _ _ => none

/-- The reply expiry, where the reply timer runs (R79). -/
def Transfer.expiry? : Transfer → Option Nat
  | .running _ _ _ e _ => e
  | .idle | .stopped _ _ _ _ => none

/-- READ VOUCHER (R94). -/
def execReadVoucher (tag : Byte) : State → Host.Outcome State Fault Refusal :=
  live fun s =>
    let x := s.transfer
    s.reply tag 15 .ok
      (be 1 x.code ++ optBe 3 x.session? ++ optBe 3 x.tag? ++
        optBe 1 (x.stop?.map fun p => p.1.code) ++ optBe 1 (x.stop?.map fun p => p.2.code) ++
        optBe 2 (x.stop?.bind fun p => p.2.tillOutcome) ++ optMs (x.expiry?.map s.left) ++
        be 2 s.tagCounter ++ be 1 s.voucherQueue.length ++ s.voucherQueue.flatMap (be 2))

end Sys2Proof.Machine
end

