-- ==== Sys2Proof/Machine/Dispatch.lean ====
section
/-! DEFINITION. One arm per command: each calls the meaning of its row of spec/opcode_table.json. -/

namespace Sys2Proof.Machine

/-- The effect of a command on everything but the queue. -/
def exec (i : Instr) (s : State) : Host.Outcome State Fault Refusal :=
  match i with
  | .hardwareReset => Sys2Proof.Machine.execHardwareReset s
  | .resetRelease => Sys2Proof.Machine.execResetRelease s
  | .feedfltAssert => Sys2Proof.Machine.execFeedfltAssert s
  | .feedfltClear => Sys2Proof.Machine.execFeedfltClear s
  | .frameGapTimeout link => Sys2Proof.Machine.execFrameGapTimeout link s
  | .frameDiscard link cause => Sys2Proof.Machine.execFrameDiscard link cause s
  | .frameSendStart link => Sys2Proof.Machine.execFrameSendStart link s
  | .sendCollision link => Sys2Proof.Machine.execSendCollision link s
  | .backoffExpiry link => Sys2Proof.Machine.execBackoffExpiry link s
  | .frameSent link => Sys2Proof.Machine.execFrameSent link s
  | .heldFramePlaced link => Sys2Proof.Machine.execHeldFramePlaced link s
  | .announce src payload => Sys2Proof.Machine.execAnnounce src payload s
  | .silenceExpiry station => Sys2Proof.Machine.execSilenceExpiry station s
  | .itemReport src payload => Sys2Proof.Machine.execItemReport src payload s
  | .itemWithdraw src payload => Sys2Proof.Machine.execItemWithdraw src payload s
  | .sessionClose src payload => Sys2Proof.Machine.execSessionClose src payload s
  | .idleExpiry session => Sys2Proof.Machine.execIdleExpiry session s
  | .referralExpiry number => Sys2Proof.Machine.execReferralExpiry number s
  | .requestAccepted src payload => Sys2Proof.Machine.execRequestAccepted src payload s
  | .voucherStatus src payload => Sys2Proof.Machine.execVoucherStatus src payload s
  | .replyTimerExpiry => Sys2Proof.Machine.execReplyTimerExpiry s
  | .dropDone src payload => Sys2Proof.Machine.execDropDone src payload s
  | .dropExpiry lane => Sys2Proof.Machine.execDropExpiry lane s
  | .strokeRecordExpiry => Sys2Proof.Machine.execStrokeRecordExpiry s
  | .laneReport src payload => Sys2Proof.Machine.execLaneReport src payload s
  | .commandUnknown tag code => Sys2Proof.Machine.execCommandUnknown tag code s
  | .loadArticle tag entry => Sys2Proof.Machine.execLoadArticle tag entry s
  | .removeArticle tag number span => Sys2Proof.Machine.execRemoveArticle tag number span s
  | .readArticleKey tag number span => Sys2Proof.Machine.execReadArticleKey tag number span s
  | .readArticleLookup tag number => Sys2Proof.Machine.execReadArticleLookup tag number s
  | .clearTable tag => Sys2Proof.Machine.execClearTable tag s
  | .loadKey tag slot scheme producer => Sys2Proof.Machine.execLoadKey tag slot scheme producer s
  | .clearKey tag slot => Sys2Proof.Machine.execClearKey tag slot s
  | .readKeys tag => Sys2Proof.Machine.execReadKeys tag s
  | .setClassValue tag cls value => Sys2Proof.Machine.execSetClassValue tag cls value s
  | .readClassValues tag => Sys2Proof.Machine.execReadClassValues tag s
  | .referralAnswerEntry tag number entry => Sys2Proof.Machine.execReferralAnswerEntry tag number entry s
  | .referralAnswerDecide tag number verdict cls route => Sys2Proof.Machine.execReferralAnswerDecide tag number verdict cls route s
  | .readReferrals tag => Sys2Proof.Machine.execReadReferrals tag s
  | .readSessionSummary tag => Sys2Proof.Machine.execReadSessionSummary tag s
  | .readSessionRecord tag session => Sys2Proof.Machine.execReadSessionRecord tag session s
  | .readSessionLines tag session index => Sys2Proof.Machine.execReadSessionLines tag session index s
  | .discardSession tag session => Sys2Proof.Machine.execDiscardSession tag session s
  | .voucherControlResume tag session => Sys2Proof.Machine.execVoucherControlResume tag session s
  | .voucherControlRestart tag session => Sys2Proof.Machine.execVoucherControlRestart tag session s
  | .voucherControlCancel tag session => Sys2Proof.Machine.execVoucherControlCancel tag session s
  | .voucherControlAbort tag session => Sys2Proof.Machine.execVoucherControlAbort tag session s
  | .readVoucher tag => Sys2Proof.Machine.execReadVoucher tag s
  | .setLane tag lane kind route capacity factor warn => Sys2Proof.Machine.execSetLane tag lane kind route capacity factor warn s
  | .laneGoOpen tag lane => Sys2Proof.Machine.execLaneGoOpen tag lane s
  | .laneGoDrain tag lane => Sys2Proof.Machine.execLaneGoDrain tag lane s
  | .laneGoClearFault tag lane => Sys2Proof.Machine.execLaneGoClearFault tag lane s
  | .maskLane tag lane mask => Sys2Proof.Machine.execMaskLane tag lane mask s
  | .overflowEmptied tag => Sys2Proof.Machine.execOverflowEmptied tag s
  | .readStatusStation tag station => Sys2Proof.Machine.execReadStatusStation tag station s
  | .readStatusLane tag lane => Sys2Proof.Machine.execReadStatusLane tag lane s
  | .readBudget tag => Sys2Proof.Machine.execReadBudget tag s
  | .readCounters tag group => Sys2Proof.Machine.execReadCounters tag group s
  | .readAndClear tag group => Sys2Proof.Machine.execReadAndClear tag group s
  | .stationGoListen tag station => Sys2Proof.Machine.execStationGoListen tag station s
  | .stationGoOperate tag station => Sys2Proof.Machine.execStationGoOperate tag station s
  | .stationGoPause tag station => Sys2Proof.Machine.execStationGoPause tag station s
  | .stationGoOff tag station => Sys2Proof.Machine.execStationGoOff tag station s
  | .setParameter tag number value => Sys2Proof.Machine.execSetParameter tag number value s
  | .setParameterStroke tag parameter value => Sys2Proof.Machine.execSetParameterStroke tag parameter value s
  | .readParameters tag => Sys2Proof.Machine.execReadParameters tag s
  | .cornerReset tag => Sys2Proof.Machine.execCornerReset tag s

end Sys2Proof.Machine
end

