-- ==== Sys2Proof/Machine/Timers.lean ====
section
/-! DEFINITION. The passing of time (log entries 1, 2 and 6): one tick is one ms, and the commands that
the part's own timers and its held frames give rise to at a tick. -/

namespace Sys2Proof.Machine

/-- A time that has come. -/
def State.isDue (s : State) (t : Option Nat) : Bool := t.any fun e => decide (e ≤ s.now)

/-- Silence timers that have run out (R161). -/
def State.dueSilence (s : State) : List Instr :=
  allStations.filterMap fun st =>
    if s.isDue (s.stations[st]).silenceExpiry then some (.silenceExpiry (stationNo st)) else none

/-- Idle timers that have run out (R65). -/
def State.dueIdle (s : State) : List Instr :=
  s.sessions.filterMap fun x => if s.isDue x.idleExpiry then some (.idleExpiry x.number) else none

/-- Referral timers that have run out (R53). -/
def State.dueReferrals (s : State) : List Instr :=
  s.referrals.filterMap fun r => if r.expiry ≤ s.now then some (.referralExpiry r.number) else none

/-- The reply timer, where it has run out (R82). -/
def State.dueReply (s : State) : List Instr :=
  match s.transfer with
  | .running _ _ _ e _ => if s.isDue e then [.replyTimerExpiry] else []
  | .idle | .stopped _ _ _ _ => []

/-- Drop timers that have run out (R126). -/
def State.dueDrops (s : State) : List Instr :=
  allLanes.filterMap fun i =>
    if s.isDue ((s.pipes[i]).dropping.bind Dropping.expiry) then some (.dropExpiry (laneNo i))
    else none

/-- Stroke records whose window has passed (R143). -/
def State.dueStrokes (s : State) : List Instr :=
  s.strokes.filterMap fun r =>
    if r.time + s.params.window ≤ s.now then some .strokeRecordExpiry else none

/-- Held frames for which a link's queue has room (R173). -/
def State.dueHeld (l : Link) (s : State) : List Instr :=
  List.replicate (min (s.port l).held.length (capacityOf l - (s.port l).queue.length))
    (.heldFramePlaced l)

/-- A gap of more than 1 ms in an incoming frame (R171). -/
def State.dueGap (l : Link) (s : State) : List Instr :=
  if !(s.port l).incoming.isEmpty && (s.port l).gapPassed s.now then [.frameGapTimeout l] else []

/-- Everything that is due, in the order of log entry 6. -/
def State.due (s : State) : List Instr :=
  s.dueSilence ++ s.dueIdle ++ s.dueReferrals ++ s.dueReply ++ s.dueDrops ++ s.dueStrokes ++
  s.dueHeld .front ++ s.dueHeld .back ++ s.dueGap .front ++ s.dueGap .back

/-- One ms passes.  While RESET is asserted no timer runs (R180). -/
def State.tick (s : State) : State :=
  let t := { s with now := s.now + 1 }
  if s.resetAsserted then t else { t with pending := t.pending ++ t.due }

end Sys2Proof.Machine
end

