-- ==== Sys2Proof/Machine/Step.lean ====
section
/-! DEFINITION. One step of the machine: the command at the front of the queue, or, with an empty queue,
one ms of time (log entry 1). -/

namespace Sys2Proof.Machine

/-- Take the command at the front of the queue and run it on the queue's rest; with an empty queue the
block idles for one ms (log entry 1). -/
def step (s : State) : Host.Outcome State Fault Refusal :=
  match s.pending with
  | c :: rest => exec c { s with pending := rest }
  | [] => .next s.tick

/-- The command that a table word spells, put at the front of the queue; the table gives no row any
bits, so no word spells one (log entry 11). -/
def State.withFetchWord (s : State) (nbits w : Nat) : State :=
  match decodeTableWord nbits w with
  | some c => { s with pending := c :: s.pending }
  | none => s

end Sys2Proof.Machine
end

