-- ==== Sys2Proof/Safety.lean ====
section
/-! DEFINITION. What statements about the machine are said with: the frames that an event has produced,
and the laws of the manual that every step keeps. -/

namespace Sys2Proof.Machine

/-! ## Frames produced -/

/-- The frames of a port that are still to be sent, oldest first: its queue, then the frames held for
room (R173). -/
def Port.all (p : Port) : List Queued := p.queue ++ p.held

/-- `q` is the port `p` with the frames `fs` placed behind those it had, and otherwise unchanged. -/
def Port.Took (fs : List Frame) (p q : Port) : Prop :=
  (∃ new : List Queued, q.all = p.all ++ new ∧ new.map Queued.frame = fs) ∧
  q = { p with queue := q.queue, held := q.held }

/-- `t` is `u` with `front` placed on the front link and `back` on the back link, each in order, and with
nothing else changed. -/
structure Sends (front back : List Frame) (u t : State) : Prop where
  front : u.front.Took front t.front
  back : u.back.Took back t.back
  rest : t = { u with serial := t.serial, front := t.front, back := t.back }

/-- A consideration has nothing left to grant: no request waits, or the candidate in turn does not fit
the budget (R140). -/
def GrantsDone (s : State) : Prop :=
  ∀ i w, s.candidate? = some i → s.weight? i = some w → s.params.budget < s.strokeSum + w

/-- The VERDICT of a final RETURN, with the number and the running credit of the station's current
session where it has one (R24). -/
def returnVerdict (s : State) (st : Fin 8) (seq : Nat) (r : ReturnReason) : Frame :=
  .verdict (stationNo st)
    { seq, kind := .returned r, credit := none, credited := none,
      session := (s.current? st).map Session.number, running := (s.current? st).map Session.credit,
      residue := none, foreign := none }

/-- The VERDICT that a frame is, with its station. -/
def Frame.verdict? : Frame → Option (Nat × Verdict)
  | .verdict st v => some (st, v)
  | _ => none

/-- The station, the sequence and the kind of a final VERDICT, which is any but a HOLD (R24, R44). -/
def Frame.final? : Frame → Option (Nat × Nat × VerdictKind)
  | .verdict st v => if v.kind = .hold then none else some (st, v.seq, v.kind)
  | _ => none

/-- The lane that a DROP GO is for (R123). -/
def Frame.goLane? : Frame → Option Nat
  | .dropGo lane _ => some lane
  | _ => none

/-- The final VERDICTs of the frames are one for each waiting item, in the order of the items, each to the
item's station and of a kind that is right for the item (R44). -/
def FinalVerdicts (ws : List Waiting) (right : Waiting → VerdictKind → Prop) (fs : List Frame) : Prop :=
  List.Forall₂ (fun w v => v.1 = stationNo w.station ∧ v.2.1 = w.report.seq ∧ right w v.2.2) ws
    (fs.filterMap Frame.final?)

/-- The final RETURN of a waiting item, with its session and that session's running credit (R24). -/
def waitingReturn (s : State) (r : ReturnReason) (w : Waiting) : Nat × Verdict :=
  (stationNo w.station,
    { seq := w.report.seq, kind := .returned r, credit := none, credited := none,
      session := some w.session, running := (s.session? w.session).map Session.credit,
      residue := none, foreign := none })

/-- Waiting items have been ended: the count of held items of their stations and of their sessions has
fallen by one for each of them (R25, R44). -/
def HeldFall (ws : List Waiting) (s t : State) : Prop :=
  (∀ st : Fin 8, t.heldCounts[st] = s.heldCounts[st] - ws.countP fun w => w.station == st) ∧
  ∀ n y, t.session? n = some y → ∃ x, s.session? n = some x ∧
    y.held = x.held - ws.countP fun w => w.session == n

/-- The kinds of final VERDICT that an item resumed after an ENTRY answer can get, by the tables as they
then stand (R45 with R31 to R41): its own step that fails; REFER_LOOP where the lookup misses or the
rights refer; else acceptance, or the want of room in its session or in the corner. -/
def EntryKind (articles : List Entry) (keys : Vector (Option SchemeKey) 4) (article : Nat) (w : Waiting)
    (k : VerdictKind) : Prop :=
  match lookup articles article with
  | none => k = .returned .referLoop
  | some e =>
    match plausibility e w.report with
    | .error reason => k = .returned reason
    | .ok _ =>
      match rightsOf keys e with
      | .returnRights => k = .returned .rights
      | .returnBlocked => k = .returned .blocked
      | .refer => k = .returned .referLoop
      | .accept _ credit _ =>
        k = (if credit then .credit else .take) ∨ k = .returned .sessionFull ∨
          k = .returned .cornerFull

/-- The kinds of final VERDICT that an item can get by DECIDE CREDIT or TAKE (R46). -/
def DecidedKind (d : Decided) (k : VerdictKind) : Prop :=
  (match d with | .credit _ => k = .credit | .take => k = .take) ∨ k = .returned .sessionFull ∨
    k = .returned .cornerFull

/-! ## What the steps of an evaluation work out -/

/-- The clamped foreign bottles of a crate report (R36). -/
def foreignBottles (r : Report) : Nat :=
  let b := r.bottles.getD ⟨0, 0⟩
  min b.foreign b.present

/-- The own bottles of a crate report: those present less the clamped foreign ones (R36). -/
def ownBottles (r : Report) : Nat := (r.bottles.getD ⟨0, 0⟩).present - foreignBottles r

/-- The bottle entry of an entry copy whose right set lets the own bottles earn (R10, R16, R36). -/
def earningBottle (s : State) (e : Entry) : Option Entry :=
  (bottleLookup s.articles e).filter fun b => (bottleRights s.keys b).1

/-- The credit of a container, or the crate portion: the class value under verdict CREDIT (R37). -/
def ownCredit (s : State) (e : Entry) (credit : Bool) : Nat :=
  if credit then s.classValues[e.depositClass] else 0

/-- The bottle portion of a crate: own bottles that earn times the value of their class (R37). -/
def bottleCredit (s : State) (e : Entry) (r : Report) : Nat :=
  match earningBottle s e with
  | some b => ownBottles r * s.classValues[b.depositClass]
  | none => 0

/-- No place for a new record with its item: 4 records are present, or 8 items wait (R50, R51). -/
def NoReferralRoom (s : State) : Prop := 4 ≤ s.referrals.length ∨ 8 ≤ s.waitingItems.length

/-- A record is the MISS record of an article number (R50). -/
def IsMissOf (n : Nat) (f : Referral) : Prop := f.kind = .miss ∧ f.article = n

/-- A report that belongs to the session `x` fails at one of the steps 3 to 9 with a reason (R30 to R40):
no number; a miss that the Referral List cannot take; a failing plausibility test; RIGHTS or BLOCKED; a
refer that the Referral List cannot take; a session at its cap or with 9,999 items; no lane. -/
def StepFails (s : State) (x : Session) (r : Report) (reason : ReturnReason) : Prop :=
  (r.number = none ∧ reason = .noCode) ∨
  ∃ n, r.number = some n ∧
    ((lookup s.articles n = none ∧ reason = .unknown ∧
        (8 ≤ s.waitingItems.length ∨
          (∀ f ∈ s.referrals, ¬IsMissOf n f) ∧ 4 ≤ s.referrals.length)) ∨
      ∃ e, lookup s.articles n = some e ∧
        (plausibility e r = .error reason ∨
          ∃ mark, plausibility e r = .ok mark ∧
            (rightsOf s.keys e = .returnRights ∧ reason = .rights ∨
              rightsOf s.keys e = .returnBlocked ∧ reason = .blocked ∨
              rightsOf s.keys e = .refer ∧ NoReferralRoom s ∧ reason = .referBusy ∨
              ∃ set credit row, rightsOf s.keys e = .accept set credit row ∧
                let full := 9999 ≤ x.accepted ∨
                  (0 < ownCredit s e credit + bottleCredit s e r ∧ x.cap ≤ x.credit)
                (full ∧ reason = .sessionFull ∨
                  ¬full ∧ s.chooseLane (routeOf e set) (itemFill e.kind e.volume) none = none ∧
                    reason = .cornerFull))))

/-! ## What follows the end of a session -/

/-- The tag that a transfer gets (R80). -/
def nextTag (s : State) : Nat := if s.tagCounter < 65535 then s.tagCounter + 1 else 1

/-- The SESSION RESULT that delivers a session whose outcome stands in the record `x`, and the state after
it (R72): sent to a station in OPERATING, and the record freed; at any other station state the session
waits in AWAIT_PRINT, behind those that wait already. -/
def delivered (x : Session) (s : State) : List Frame × State :=
  if (s.stations[x.station]).state = .operating then
    ([.sessionResult (stationNo x.station)
      { session := x.number, outcome := x.outcome, disposition := x.disposition, amount := x.credit,
        voucherNumber := x.voucherNumber, accepted := x.accepted, lineCount := x.lines.length }],
      s.freeSession x.number)
  else
    ([], { s.onSession x.number (fun _ => { x with state := .awaitPrint }) with
           awaiting := s.awaiting ++ [x.number] })

/-- The head of the voucher queue has left it, and `rest` is what stands behind it (R81, R86): with nothing
queued the transfer is IDLE, else the next head begins REQUEST under a new tag. `before` and `after` are
the frames around its VOUCHER REQUEST. -/
def NextHead (rest : List Nat) (before after : List Frame) (u t : State) : Prop :=
  (rest = [] → Sends (before ++ after) [] { u with voucherQueue := [], transfer := .idle } t) ∧
  ∀ m ms y, rest = m :: ms → u.session? m = some y → ∃ latest,
    Sends (before ++ [.voucherRequest (nextTag u) (stationNo y.station) m y.credit y.lines.length] ++
      after) []
      { u.onSession m (fun z => { z with state := .issuing, issueTag := some (nextTag u) }) with
        voucherQueue := rest, tagCounter := nextTag u,
        transfer := .running .request m (nextTag u) none latest } t

/-- A station has left service (R58, R67, R69, R163). Its items are gone from every record, the others stay
in their order, records left empty are freed with a REFERRAL ENDED notice, and its count of held items is
0. Its session in OPEN is closed with the idle disposition, one in CLOSING keeps its own, and either
completes: NIL or DONATED it waits in AWAIT_PRINT, else it joins the voucher queue, and is ISSUING at once
where the transfer was IDLE. `pre` are the frames placed by this. -/
def LeftService (st : Fin 8) (pre : List Frame) (s t : State) : Prop :=
  let ended := (s.referrals.filter fun r => r.waiting.all fun w => w.station == st).map fun r =>
    Frame.notice (.referralEnded r.number .station)
  t.referrals = (s.referrals.map (Referral.without fun w => w.station == st)).filter
    (fun r => !r.waiting.isEmpty) ∧
  t.heldCounts = s.heldCounts.set st.val 0 st.isLt ∧
  match s.current? st with
  | none =>
    pre = ended ∧ t.sessions = s.sessions ∧ t.awaiting = s.awaiting ∧
    t.voucherQueue = s.voucherQueue ∧ t.transfer = s.transfer ∧ t.tagCounter = s.tagCounter ∧
    t.totals = s.totals
  | some x =>
    let d := if x.state = .opened then s.params.idleDisposition else x.disposition.getD .voucher
    let y : Session := { x with held := 0, disposition := some d, idleExpiry := none }
    let put := fun z : Session => s.sessions.map fun v => if v.number = x.number then z else v
    if x.credit = 0 ∨ d = .donate then
      pre = ended ∧
      t.sessions = put { y with
        state := .awaitPrint, outcome := some (if x.credit = 0 then .nothing else .donated) } ∧
      t.awaiting = s.awaiting ++ [x.number] ∧ t.voucherQueue = s.voucherQueue ∧
      t.transfer = s.transfer ∧ t.tagCounter = s.tagCounter ∧
      t.totals = if x.credit = 0 then s.totals else s.totals.donate x.credit
    else if s.transfer = .idle then
      ∃ latest,
        pre = ended ++ [.voucherRequest (nextTag s) (stationNo st) x.number x.credit
          x.lines.length] ∧
        t.sessions = put { y with state := .issuing, issueTag := some (nextTag s) } ∧
        t.awaiting = s.awaiting ∧ t.voucherQueue = [x.number] ∧
        t.transfer = .running .request x.number (nextTag s) none latest ∧
        t.tagCounter = nextTag s ∧ t.totals = s.totals
    else
      pre = ended ∧ t.sessions = put { y with state := .queued } ∧ t.awaiting = s.awaiting ∧
      t.voucherQueue = s.voucherQueue ++ [x.number] ∧ t.transfer = s.transfer ∧
      t.tagCounter = s.tagCounter ∧ t.totals = s.totals

/-! ## Orders of lanes -/

/-- The orders of every lane but `i` are as before. -/
def OtherOrdersKept (i : Fin 12) (s t : State) : Prop :=
  ∀ j : Fin 12, j ≠ i → (t.pipes[j]).orders = (s.pipes[j]).orders

/-! ## What considerations grant -/

/-- `new` are the stroke records of the grants that lead from `s` to `t` (R140, R142): each was granted to a
lane that waited, with the weight of its class, and moved its staged order to the dropping position with
a DROP GO; a lane that was granted nothing keeps its pipeline; no grant is left to make. -/
structure Granted (new : List Stroke) (s t : State) : Prop where
  records : t.strokes = s.strokes ++ new
  waited : ∀ g ∈ new, g.time = s.now ∧ (s.pipes[g.lane]).request = true ∧
    s.weight? g.lane = some g.weight
  started : ∀ g ∈ new, (t.pipes[g.lane]).request = false ∧
    ∀ o, (s.pipes[g.lane]).staged = some o → ∃ serial,
      (t.pipes[g.lane]).dropping = some { order := o, jam := false, expiry := none, go := serial }
  others : ∀ i : Fin 12, (∀ g ∈ new, g.lane ≠ i) → t.pipes[i] = s.pipes[i]
  pointer : t.pointer = ((new.getLast?.map fun g => g.lane + 1).getD s.pointer)
  goes : (∀ i : Fin 12, (s.pipes[i]).request = true → (s.pipes[i]).staged.isSome = true) →
    ∃ fs, s.back.Took fs t.back ∧ fs.filterMap Frame.goLane? = new.map fun g => laneNo g.lane
  budget : s.strokeSum ≤ s.params.budget → t.strokeSum ≤ t.params.budget
  done : GrantsDone t

/-- A consideration has been made (R140): nothing while the feed-fault state is asserted, else grants. -/
def Considered (u t : State) : Prop :=
  (u.feedFault = true → t = u) ∧
  (u.feedFault = false → ∃ new, Granted new u t ∧
    t = { u with serial := t.serial, back := t.back, pipes := t.pipes, strokes := t.strokes,
                 pointer := t.pointer })

/-! ## What a pipeline and its lane do -/

/-- Frames of the Drop Pipelines only: DROP ORDER and DROP GO (R134). -/
def Drops (fs : List Frame) : Prop := ∀ f ∈ fs, f.ofPipeline = true

/-- The pipeline of lane `i` has gone as far as R122 and R123 allow in OPEN and DRAINING: an order is staged
if any is queued, and a staged order drops, or waits for a stroke, if nothing drops before it. -/
def Advanced (i : Fin 12) (t : State) : Prop :=
  ((t.pipes[i]).staged = none → (t.pipes[i]).queue = []) ∧
  ((t.pipes[i]).staged.isSome = true → (t.pipes[i]).dropping = none →
    (t.pipes[i]).request = true ∧ (t.lanes[i]).kind ≠ .loose)

/-- The overflow record after orders have gone to overflow (R113, R114). -/
def Overflow.after (gone : List Order) (capacity : Nat) (o : Overflow) : Overflow :=
  if gone = [] then o
  else
    let fill := min (o.fill + (gone.map Order.fill).sum) 99999999
    { fill, items := min (o.items + gone.length) 99999999,
      high := o.high || decide (capacity < fill) }

/-- The corner totals after orders have gone to overflow (R113, R152). -/
def Totals.overflowed (gone : List Order) (t : Totals) : Totals :=
  if gone = [] then t
  else { t with
    overflowItems := min (t.overflowItems + gone.length) 99999999,
    overflowFill := min (t.overflowFill + (gone.map Order.fill).sum) 99999999 }

/-- An OVERFLOW HIGH notice (R114). -/
def Frame.isOverflowHigh : Frame → Bool
  | .notice (.overflowHigh _ _ _) => true
  | _ => false

/-- A NEARLY FULL notice (R100). -/
def Frame.isNearlyFull : Frame → Bool
  | .notice (.nearlyFull _ _ _ _) => true
  | _ => false

/-- The notices that changes of fill call for (R100, R114): NEARLY FULL, and one OVERFLOW HIGH where the
overflow high mark has been set between `o` and `p`. -/
def FillNotices (o p : Overflow) (fs : List Frame) : Prop :=
  (∀ f ∈ fs, f.isNearlyFull = true ∨ f.isOverflowHigh = true) ∧
  fs.countP Frame.isOverflowHigh = if o.high = false ∧ p.high = true then 1 else 0

/-- The queued orders of lane `i` that go to one place of `dest`, which has a lane or overflow (`none`) for
each queued order. -/
def sentTo (i : Fin 12) (dest : List (Option (Fin 12))) (s : State) (place : Option (Fin 12)) :
    List Order :=
  (((s.pipes[i]).queue.zip dest).filter fun p => p.2 == place).map Prod.fst

/-- The queue of lane `i` has been rerouted, each order to the lane or to overflow (`none`) that stands at
its place in `dest` (R112).  Each order joins the tail of the orders of a lane that lane choice may take,
and reserves its fill there; no other lane changes; and with no stroke request to withdraw the oldest goes
where lane choice, with lane `i` left out, finds room for it. -/
structure Rerouted (i : Fin 12) (dest : List (Option (Fin 12))) (s t : State) : Prop where
  each : dest.length = (s.pipes[i]).queue.length
  elsewhere : some i ∉ dest
  open_lanes : ∀ j, some j ∈ dest → (s.lanes[j]).state = .opened ∧ (s.lanes[j]).mask = false ∧
    (s.lanes[j]).route = (s.lanes[i]).route
  orders : ∀ j : Fin 12, j ≠ i →
    (t.pipes[j]).orders = (s.pipes[j]).orders ++ sentTo i dest s (some j)
  lanes : ∀ j : Fin 12, j ≠ i → t.lanes[j] =
    if sentTo i dest s (some j) = [] then s.lanes[j]
    else { s.lanes[j] with
      reserved := (s.lanes[j]).reserved + ((sentTo i dest s (some j)).map Order.fill).sum,
      nearlyFull := (t.lanes[j]).atWarn }
  oldest : (s.pipes[i]).request = false → ∀ o rest, (s.pipes[i]).queue = o :: rest →
    dest.head? = some (s.chooseLane (s.lanes[i]).route (fun _ => o.fill) (some i))

/-- Lane `i` has entered SWAP or FAULT (R111, R112, R132): its record is `l` in the state `st`, its pipeline
is `p` without staged order, queue and request, the orders of `ended`, the staged order and the queued
orders that find no lane have gone to overflow, the others have been rerouted, and the LANE MODE frame is
the last of the back link. -/
structure WentOut (i : Fin 12) (st : LaneState) (l : Lane) (p : Pipeline) (ended : List Order)
    (s t : State) : Prop where
  lane : t.lanes[i] = { l with
    state := st, changed := true, reserved := ((t.pipes[i]).orders.map Order.fill).sum,
    nearlyFull := (t.lanes[i]).nearlyFull }
  mark : (t.lanes[i]).nearlyFull = l.nearlyFull ∨ (t.lanes[i]).nearlyFull = (t.lanes[i]).atWarn
  pipe : t.pipes[i] = { p with queue := [], staged := none, request := false }
  rerouted : ∃ dest, Rerouted i dest s t ∧
    let gone := ended ++ ((s.pipes[i]).staged.toList ++ sentTo i dest s none)
    t.overflow = s.overflow.after gone s.params.overflowCapacity ∧
    t.totals = s.totals.overflowed gone
  front : ∃ ns, s.front.Took ns t.front ∧ FillNotices s.overflow t.overflow ns
  back : ∃ fs, s.back.Took (fs ++ [.laneMode (laneNo i) st]) t.back ∧ Drops fs
  rest : t = { s with serial := t.serial, front := t.front, back := t.back, lanes := t.lanes,
                      pipes := t.pipes, strokes := t.strokes, pointer := t.pointer,
                      overflow := t.overflow, totals := t.totals }

/-- Lane `i` has returned to OPEN or DRAINING with the record `l` (R108, R110, R131): an empty pipeline in
DRAINING closes the lane at once, with a second LANE MODE frame; else the pipeline goes on.  Every order
stays in its lane. -/
structure Returned (i : Fin 12) (b : RunState) (l : Lane) (s t : State) : Prop where
  lanes : t.lanes = s.lanes.set i.val { l with
    state := if b = .draining ∧ (s.pipes[i]).isEmpty = true then .closed else b.laneState,
    changed := true } i.isLt
  back : ∃ fs, Drops fs ∧ s.back.Took (.laneMode (laneNo i) b.laneState ::
    if b = .draining ∧ (s.pipes[i]).isEmpty = true then [.laneMode (laneNo i) .closed] else fs) t.back
  orders : ∀ j : Fin 12, (t.pipes[j]).orders = (s.pipes[j]).orders
  goes_on : Advanced i t
  rest : t = { s with serial := t.serial, front := t.front, back := t.back, lanes := t.lanes,
                      pipes := t.pipes, strokes := t.strokes, pointer := t.pointer }

/-- The lane is in DRAINING and holds no order but the dropping one, so that it closes at the drop's end
(R104). -/
def lastOfDrain (i : Fin 12) (s : State) : Bool :=
  (s.lanes[i]).state == .draining && (s.pipes[i]).staged.isNone && (s.pipes[i]).queue.isEmpty

/-- The dropping position of lane `i` has emptied without a FAULT (R104, R130): the last order of a drain
closes the lane, with its LANE MODE frame; else in OPEN and DRAINING the pipeline goes on, and in REST,
SWAP and FAULT nothing follows. -/
structure DropEnded (i : Fin 12) (s t : State) : Prop where
  state : (t.lanes[i]).state = if lastOfDrain i s then .closed else (s.lanes[i]).state
  changed : (t.lanes[i]).changed = ((s.lanes[i]).changed || lastOfDrain i s)
  closes : lastOfDrain i s = true → s.back.Took [.laneMode (laneNo i) .closed] t.back
  goes_on : lastOfDrain i s = false → (s.lanes[i]).state.runs = true →
    Advanced i t ∧ ∃ fs, s.back.Took fs t.back ∧ Drops fs
  waits : (s.lanes[i]).state.runs = false → t.back = s.back
  others : lastOfDrain i s = true ∨ (s.lanes[i]).state.runs = false →
    t.strokes = s.strokes ∧ t.pointer = s.pointer ∧ ∀ j : Fin 12, j ≠ i → t.pipes[j] = s.pipes[j]
  notices : ∃ ns, s.front.Took ns t.front ∧ FillNotices s.overflow t.overflow ns
  mark : (t.lanes[i]).nearlyFull = (t.lanes[i]).atWarn
  record : t.lanes[i] = { s.lanes[i] with
    committed := (t.lanes[i]).committed, reserved := (t.lanes[i]).reserved,
    itemsSince := (t.lanes[i]).itemsSince, nearlyFull := (t.lanes[i]).nearlyFull,
    state := (t.lanes[i]).state, changed := (t.lanes[i]).changed }

/-! ## Bytes that reach the part -/

/-- A LANE REPORT: thermal class, bin absent or present, jam indication (R107, R181, R182). -/
def laneReportBytes (c : Thermal) (out jam : Bool) : List Byte :=
  be 1 c.code ++ markByte out ++ markByte jam

/-- The fields of an article entry in the order of R1 (R175; their widths: log entry 15). -/
def entryArgs (e : RawEntry) : List Byte :=
  be 6 e.number ++ be 1 e.span ++ be 1 e.kind ++ be 1 e.material ++ be 1 e.depositClass ++
  be 1 e.scheme ++ be 2 e.producer ++ be 1 e.own ++ be 1 e.partner ++ be 1 e.foreign ++
  be 1 e.check ++ be 2 e.nominalMass ++ be 2 e.massTolerance ++ be 2 e.residue ++
  be 2 e.nominalHeight ++ be 1 e.heightTolerance ++ be 2 e.volume ++ be 1 e.slots ++
  be 6 e.bottleNumber

/-- Width in bytes of the value of a parameter (R178, R182). -/
def valueWidth (n : Nat) : Nat := if n = 1 then 3 else if n = 3 ∨ n = 7 then 1 else 2

/-- The tag, the command code and the argument bytes of a management command (R174, R175): the choice,
form, answer kind or target class first, then the fields of the command's rule in its order. -/
def commandBytes : Instr → Option (Byte × Nat × List Byte)
  | .loadArticle t e => some (t, 1, entryArgs e)
  | .removeArticle t n sp => some (t, 2, be 6 n ++ be 1 sp)
  | .readArticleKey t n sp => some (t, 3, be 1 0 ++ be 6 n ++ be 1 sp)
  | .readArticleLookup t n => some (t, 3, be 1 1 ++ be 6 n)
  | .clearTable t => some (t, 4, [])
  | .loadKey t slot scheme producer => some (t, 5, be 1 slot ++ be 1 scheme ++ be 2 producer)
  | .clearKey t slot => some (t, 6, be 1 slot)
  | .readKeys t => some (t, 7, [])
  | .setClassValue t c v => some (t, 8, be 1 c ++ be 2 v)
  | .readClassValues t => some (t, 9, [])
  | .referralAnswerEntry t n e => some (t, 10, be 1 0 ++ be 1 n ++ entryArgs e)
  | .referralAnswerDecide t n v c r => some (t, 10, be 1 1 ++ be 1 n ++ be 1 v ++ be 1 c ++ be 1 r)
  | .readReferrals t => some (t, 11, [])
  | .readSessionSummary t => some (t, 12, be 1 0)
  | .readSessionRecord t n => some (t, 12, be 1 1 ++ be 2 n)
  | .readSessionLines t n k => some (t, 12, be 1 2 ++ be 2 n ++ be 1 k)
  | .discardSession t n => some (t, 13, be 2 n)
  | .voucherControlResume t n => some (t, 14, be 1 0 ++ be 2 n)
  | .voucherControlRestart t n => some (t, 14, be 1 1 ++ be 2 n)
  | .voucherControlCancel t n => some (t, 14, be 1 2 ++ be 2 n)
  | .voucherControlAbort t n => some (t, 14, be 1 3 ++ be 2 n)
  | .readVoucher t => some (t, 15, [])
  | .setLane t l k r c f w =>
    some (t, 16, be 1 l ++ be 1 k ++ be 1 r ++ be 2 c ++ be 1 f ++ be 1 w)
  | .laneGoOpen t l => some (t, 17, be 1 0 ++ be 1 l)
  | .laneGoDrain t l => some (t, 17, be 1 1 ++ be 1 l)
  | .laneGoClearFault t l => some (t, 17, be 1 2 ++ be 1 l)
  | .maskLane t l m => some (t, 18, be 1 l ++ be 1 m)
  | .overflowEmptied t => some (t, 19, [])
  | .readStatusStation t n => some (t, 20, be 1 0 ++ be 1 n)
  | .readStatusLane t n => some (t, 20, be 1 1 ++ be 1 n)
  | .readBudget t => some (t, 21, [])
  | .readCounters t g => some (t, 22, be 1 g)
  | .readAndClear t g => some (t, 23, be 1 g)
  | .stationGoListen t n => some (t, 24, be 1 0 ++ be 1 n)
  | .stationGoOperate t n => some (t, 24, be 1 1 ++ be 1 n)
  | .stationGoPause t n => some (t, 24, be 1 2 ++ be 1 n)
  | .stationGoOff t n => some (t, 24, be 1 3 ++ be 1 n)
  | .setParameter t n v =>
    if v < 256 ^ valueWidth n then some (t, 25, be 1 n ++ be (valueWidth n) v) else none
  | .setParameterStroke t .budget v => some (t, 25, be 1 7 ++ be 1 v)
  | .setParameterStroke t .window v => some (t, 25, be 1 8 ++ be 2 v)
  | .readParameters t => some (t, 26, [])
  | .cornerReset t => some (t, 27, [])
  | _ => none

/-! ## Laws of the manual -/

/-- The Article Table holds no two entries of one key and at most 2048 entries (R3). -/
def ArticlesOk (s : State) : Prop :=
  tableWf s.articles = true ∧ s.articles.length ≤ Config.maxEntries

/-- An article entry holds its fields within the ranges of R1, its number normalised (R1, R2, R4). -/
def Entry.Ok (e : Entry) : Prop :=
  e.number ≤ 999999999999 ∧ normalise e.number e.span = e.number ∧
  (1 ≤ e.scheme ∧ e.scheme ≤ 255) ∧ (1 ≤ e.producer ∧ e.producer ≤ 4095) ∧
  (40 ≤ e.nominalHeight ∧ e.nominalHeight ≤ 450) ∧ e.heightTolerance ≤ 31 ∧
  match e.body with
  | .container _ mass tolerance residue volume =>
    (1 ≤ mass ∧ mass ≤ 2000) ∧ tolerance ≤ 255 ∧ residue ≤ 255 ∧ 1 ≤ volume ∧ volume ≤ 3000
  | .crate slots bottle => (1 ≤ slots ∧ slots ≤ 30) ∧ bottle ≤ 999999999999

/-- Every entry that the part holds is within the ranges of R1: in the Article Table, in the snapshot of a
DECISION record, and in the bottle entry copy of a waiting item (R1, R11, R48). -/
def EntriesOk (s : State) : Prop :=
  (∀ e ∈ s.articles, e.Ok) ∧ (∀ r ∈ s.referrals, ∀ e, r.kind = .decision e → e.Ok) ∧
  ∀ w ∈ s.waitingItems, ∀ e, w.bottle = some e → e.Ok

/-- The sum of the stroke record list is at most B (R139, R140). -/
def StrokesOk (s : State) : Prop := s.strokeSum ≤ s.params.budget

/-- Each outgoing queue holds at most its capacity (R173). -/
def PortsOk (s : State) : Prop :=
  s.front.queue.length ≤ Config.frontCapacity ∧ s.back.queue.length ≤ Config.backCapacity

/-- The counters of a cell are within their ranges (R149, R154). -/
def Cell.Ok (c : Cell) : Prop :=
  c.credited ≤ Config.maxCount ∧ c.taken ≤ Config.maxCount ∧ c.value ≤ Config.maxValue

/-- The cells of a row are within their ranges. -/
def Row.Ok (r : Row) : Prop := r.pet.Ok ∧ r.alu.Ok ∧ r.steel.Ok ∧ r.glass.Ok ∧ r.crate.Ok

/-- The corner totals are within their ranges (R152, R154). -/
def Totals.Ok (t : Totals) : Prop :=
  t.issuedCount ≤ Config.maxCount ∧ t.issuedValue ≤ Config.maxValue ∧
  t.donationCount ≤ Config.maxCount ∧ t.donationValue ≤ Config.maxValue ∧
  t.cancelledCount ≤ Config.maxCount ∧ t.cancelledValue ≤ Config.maxValue ∧
  t.capExcess ≤ Config.maxValue ∧ t.resetDiscarded ≤ Config.maxValue ∧
  t.residueMarked ≤ Config.maxCount ∧ t.foreignBottles ≤ Config.maxCount ∧
  t.overflowItems ≤ Config.maxCount ∧ t.overflowFill ≤ Config.maxCount

/-- Every clearing counter is at most its maximum (R154). -/
def CountersOk (s : State) : Prop :=
  (∀ r : Fin 5, (s.rows[r]).Ok) ∧ s.totals.Ok ∧ ∀ i : Fin 19, s.returned[i] ≤ Config.maxCount

/-- Every parameter is in its range (R178). -/
def ParametersOk (s : State) : Prop :=
  let p := s.params
  (100 ≤ p.sessionCap ∧ p.sessionCap ≤ 999999) ∧
  (p.idleTime = 0 ∨ (30 ≤ p.idleTime ∧ p.idleTime ≤ 600)) ∧
  (1000 ≤ p.referralTimeout ∧ p.referralTimeout ≤ 30000) ∧
  (500 ≤ p.dropTimeout ∧ p.dropTimeout ≤ 10000) ∧
  (500 ≤ p.voucherTimeout ∧ p.voucherTimeout ≤ 10000) ∧
  (1 ≤ p.budget ∧ p.budget ≤ 12) ∧ (1000 ≤ p.window ∧ p.window ≤ 10000) ∧
  (10 ≤ p.overflowCapacity ∧ p.overflowCapacity ≤ 20000)

/-- The fields of a station record are present in the states that R158 names, and only there. -/
def Station.Ok (x : Station) : Prop :=
  (x.silenceExpiry = if x.state.attached then x.lastAnnounce.map (· + Config.silenceTime) else none) ∧
  (x.state.attached = true → x.lastAnnounce.isSome = true ∧ x.kind.isSome = true) ∧
  (x.lossCause.isSome = true ↔ x.state = .lost) ∧
  (x.attachKind.isSome = true ↔ x.attachCount ≠ 0) ∧
  (x.attachCount ≠ 0 → x.state = .listening) ∧ x.attachCount ≤ 2

/-- Every station record is as R158 says. -/
def StationsOk (s : State) : Prop := ∀ st : Fin 8, (s.stations[st]).Ok

/-- The law of a session record (R42, R43, R61): the running credit is the sum of the values of the
voucher lines and at most the cap; the lines stand in order of class, and no line has value 0. -/
def Session.Ok (x : Session) : Prop :=
  x.credit ≤ x.cap ∧ x.credit = (x.lines.map VoucherLine.value).sum ∧
  x.accepted ≤ Config.maxAccepted ∧ (x.lines.map fun l => l.cls.val).Pairwise (· < ·) ∧
  ∀ l ∈ x.lines, 0 < l.value

/-- The Session Table holds at most 16 records, no two with the same number, and each keeps its law
(R42, R61, R62). -/
def SessionsOk (s : State) : Prop :=
  s.sessions.length ≤ Config.maxSessions ∧
  (s.sessions.map Session.number).Pairwise (· < ·) ∧ ∀ x ∈ s.sessions, x.Ok

/-- The Referral List by itself (R48): at most 4 records, no two with the same number, and at most 8
waiting items; no record is without an item, a DECISION record has one, no two MISS records carry the
same article number, and no two items of a station have the same sequence (R28).  That each item belongs
to a session in OPEN or CLOSING is `HeldOk`. -/
def ReferralsOk (s : State) : Prop :=
  s.referrals.length ≤ Config.maxReferrals ∧ s.waitingItems.length ≤ Config.maxWaiting ∧
  (s.referrals.map Referral.number).Pairwise (· < ·) ∧
  (∀ r ∈ s.referrals, r.waiting ≠ []) ∧
  (∀ r ∈ s.referrals, r.kind ≠ .miss → r.waiting.length = 1) ∧
  (s.waitingItems.map fun w => (w.station, w.report.seq)).Nodup ∧
  ((s.referrals.filter fun r => r.kind == .miss).map Referral.article).Nodup

/-- The law of held items (R25, R48, R61): the count of each station and of each session is the number of
its waiting items, and each waiting item belongs to a session in OPEN or CLOSING of its station. -/
def HeldOk (s : State) : Prop :=
  (∀ st : Fin 8, s.heldCounts[st] = s.waitingItems.countP fun w => w.station == st) ∧
  (∀ x ∈ s.sessions, x.held = s.waitingItems.countP fun w => w.session == x.number) ∧
  ∀ w ∈ s.waitingItems, ∃ x ∈ s.sessions,
    x.number = w.session ∧ x.station = w.station ∧ x.isCurrent = true

/-- The law of session states (R61, R64, R67 to R69): a station has at most one session in OPEN or CLOSING,
and one only while it is attached; a closed session has a disposition and no idle timer, and one in
CLOSING waits for an item. -/
def SessionStatesOk (s : State) : Prop :=
  (∀ st : Fin 8, (s.sessions.filter fun x => x.station == st && x.isCurrent).length ≤ 1) ∧
  ∀ x ∈ s.sessions,
    (x.isCurrent = true → (s.stations[x.station]).state.attached = true) ∧
    (x.state ≠ .opened → x.disposition.isSome = true ∧ x.idleExpiry = none) ∧
    (x.state = .closing → x.held ≠ 0)

/-- The law of the voucher queue and of AWAIT_PRINT (R72, R73, R78, R79, R81): the queue holds each session
in QUEUED and ISSUING once and no other number, its head is the session of the transfer record, which
alone is ISSUING, and the order of AWAIT_PRINT holds each session in that state once and no other. -/
def VoucherQueueOk (s : State) : Prop :=
  s.voucherQueue.Nodup ∧
  (∀ n, n ∈ s.voucherQueue ↔
    ∃ x ∈ s.sessions, x.number = n ∧ (x.state = .queued ∨ x.state = .issuing)) ∧
  s.transfer.session? = s.voucherQueue.head? ∧
  (∀ x ∈ s.sessions, x.state = .issuing ↔ s.transfer.session? = some x.number) ∧
  s.awaiting.Nodup ∧
  ∀ n, n ∈ s.awaiting ↔ ∃ x ∈ s.sessions, x.number = n ∧ x.state = .awaitPrint

/-- The links between the Referral List, the Session Table, the stations and the Voucher Unit. -/
def LinkedOk (s : State) : Prop := HeldOk s ∧ SessionStatesOk s ∧ VoucherQueueOk s

/-- The transfer record works on the head of the voucher queue (R78, R79). -/
def VoucherOk (s : State) : Prop :=
  s.transfer = .idle ∨ s.transfer.session? = s.voucherQueue.head?

/-- No lane queue holds more than 6 orders (R119). -/
def QueuesOk (s : State) : Prop := ∀ i : Fin 12, (s.pipes[i]).queue.length ≤ Config.maxQueue

/-- The law of a lane with its pipeline: the fill never passes the capacity, the reserved fill is the sum
of the fills of its orders (R99, R101), an order stands in the queue or the staged position only where
the state allows it, and a stroke request waits only for a staged order of a stroke lane that runs (R104,
R111, R123, R138, R144). -/
def laneOk (l : Lane) (p : Pipeline) : Prop :=
  l.committed + l.reserved ≤ l.capacity ∧ l.reserved = (p.orders.map Order.fill).sum ∧
  (l.state = .closed → p.isEmpty = true) ∧
  (l.state = .fault ∨ (∃ b r, l.state = .swap b r) → p.queue = [] ∧ p.staged = none) ∧
  (p.request = true →
    p.staged.isSome = true ∧ p.dropping = none ∧ l.state.runs = true ∧ l.kind ≠ .loose)

/-- Every lane keeps the law of fills and positions. -/
def LanesOk (s : State) : Prop := ∀ i : Fin 12, laneOk s.lanes[i] s.pipes[i]

/-- A handle stands in at most one lane position of all lanes together, and lies in 1 to 65,535 (R26,
R119, R120). -/
def HandlesOk (s : State) : Prop := s.handles.Nodup ∧ ∀ h ∈ s.handles, 1 ≤ h ∧ h ≤ 65535

/-- The state of a lane with its bin and its thermal class (R103, R108 to R111): in OPEN and DRAINING the bin
is present and the class is not OVER, in REST the bin is present and the class is OVER, in SWAP the bin is
out. -/
def binOk (l : Lane) : Prop :=
  match l.state with
  | .opened | .draining => l.binPresent = true ∧ l.thermal ≠ .over
  | .rest _ => l.binPresent = true ∧ l.thermal = .over
  | .swap _ _ => l.binPresent = false
  | .closed | .fault => True

/-- Every lane stands in a state that its bin and its class allow. -/
def BinsOk (s : State) : Prop := ∀ i : Fin 12, binOk s.lanes[i]

end Sys2Proof.Machine
end

