-- ==== Sys2Proof/Certificates/Slice0/Obligations.lean ====
section
/-! DEFINITION. The statements about the machine that are put to the provers. -/

section

open Sys2Proof Sys2Proof.Machine

/-! ## The machine and its clock -/

/-- A step takes the command at the front of the queue and is that command's effect on the queue's
rest. -/
def Obligations.StepRunsTheFrontCommand : Prop :=
  ∀ (c : Instr) (rest : List Instr) (s : State), s.pending = c :: rest →
    step s = exec c { s with pending := rest }

/-- With an empty queue a step is one ms (log entry 1, the model's choice): the clock goes on by one, the
timers that have run out put their commands into the queue, and nothing else changes; while RESET is
asserted no timer runs (R180). -/
def Obligations.IdleStepIsOneMillisecond : Prop :=
  ∀ s : State, s.pending = [] → ∃ t, step s = .next t ∧
    t = { s with now := s.now + 1, pending := t.pending } ∧
    (s.resetAsserted = true → t.pending = []) ∧
    (s.resetAsserted = false →
      (∀ (st : Fin 8) e, (s.stations[st]).silenceExpiry = some e → e ≤ t.now →
        Instr.silenceExpiry (stationNo st) ∈ t.pending) ∧
      (∀ x ∈ s.sessions, ∀ e, x.idleExpiry = some e → e ≤ t.now →
        Instr.idleExpiry x.number ∈ t.pending) ∧
      (∀ r ∈ s.referrals, r.expiry ≤ t.now → Instr.referralExpiry r.number ∈ t.pending) ∧
      (∀ p n g e l, s.transfer = .running p n g (some e) l → e ≤ t.now →
        Instr.replyTimerExpiry ∈ t.pending) ∧
      (∀ (i : Fin 12) d e, (s.pipes[i]).dropping = some d → d.expiry = some e → e ≤ t.now →
        Instr.dropExpiry (laneNo i) ∈ t.pending) ∧
      (∀ r ∈ s.strokes, r.time + s.params.window ≤ t.now → Instr.strokeRecordExpiry ∈ t.pending))

/-! ## Reset -/

/-- The machine right after a hardware reset keeps every law of Safety.lean. -/
def Obligations.ResetKeepsEveryLaw : Prop :=
  ArticlesOk State.reset ∧ StrokesOk State.reset ∧ PortsOk State.reset ∧ QueuesOk State.reset ∧
  CountersOk State.reset ∧ ParametersOk State.reset ∧ StationsOk State.reset ∧
  SessionsOk State.reset ∧ ReferralsOk State.reset ∧ LinkedOk State.reset ∧ VoucherOk State.reset ∧
  LanesOk State.reset ∧ BinsOk State.reset ∧ EntriesOk State.reset ∧ HandlesOk State.reset

/-- What a hardware reset leaves, block by block (R22, R47, R60, R77, R95, R117, R135, R148, R157, R168,
R173, R178). -/
def Obligations.ResetLeavesHardwareValues : Prop :=
  let s := State.reset
  s.articles = [] ∧ (∀ i : Fin 4, s.keys[i] = none) ∧ (∀ c : Fin 16, s.classValues[c] = 0) ∧
  (∀ st : Fin 8, s.heldCounts[st] = 0) ∧ s.lastHandle = 0 ∧
  s.referrals = [] ∧ s.lastReferral = 0 ∧ s.sessions = [] ∧ s.lastSession = 0 ∧
  s.voucherQueue = [] ∧ s.transfer = .idle ∧ s.tagCounter = 0 ∧
  (∀ i : Fin 12, (s.lanes[i]).state = .closed ∧ (s.lanes[i]).kind = .loose ∧
    (s.lanes[i]).route = .pet ∧ (s.lanes[i]).capacity = 0 ∧ (s.lanes[i]).factor = 16 ∧
    (s.lanes[i]).warn = 90 ∧ (s.lanes[i]).mask = false ∧ (s.lanes[i]).committed = 0 ∧
    (s.lanes[i]).reserved = 0 ∧ (s.lanes[i]).nearlyFull = false ∧ (s.lanes[i]).thermal = .normal ∧
    (s.lanes[i]).binPresent = true ∧ (s.lanes[i]).fillAtRemoval = 0 ∧
    (s.lanes[i]).itemsSince = 0 ∧ (s.lanes[i]).changed = false) ∧
  (∀ i : Fin 12, (s.pipes[i]).orders = [] ∧ (s.pipes[i]).request = false ∧
    (s.pipes[i]).last = none ∧ (s.pipes[i]).beforeLast = none) ∧
  s.overflow = ⟨0, 0, false⟩ ∧ s.strokes = [] ∧ laneNo s.pointer = 1 ∧
  (∀ r : Fin 5, (s.rows[r]).isClear = true) ∧ s.totals = Totals.zero ∧
  (∀ i : Fin 19, s.returned[i] = 0) ∧
  (∀ st : Fin 8, (s.stations[st]).state = .off ∧ (s.stations[st]).kind = none ∧
    (s.stations[st]).attachCount = 0 ∧ (s.stations[st]).changed = false) ∧
  s.front.all = [] ∧ s.back.all = [] ∧
  s.params = { sessionCap := 50000, idleTime := 120, idleDisposition := .voucher,
               referralTimeout := 5000, dropTimeout := 3000, voucherTimeout := 2000, budget := 8,
               window := 4000, overflowCapacity := 1000 }

/-- The assertion of RESET stops both ports and loses their frames; while it is asserted no command but those
of the two input lines changes anything; its release, with FEEDFLT clear or asserted, puts every block
into its hardware-reset values and samples FEEDFLT (R148, R180).  The clock, the serial and the count of
draws are the model's own fields and go on (log entries 1, 3, 8), and so does the queue; that only the
level of FEEDFLT is held while RESET is asserted is the model's choice (log entry 10). -/
def Obligations.ResetLineStopsAndResetsThePart : Prop :=
  (∀ s : State, exec .hardwareReset s =
    .next { s with resetAsserted := true, front := Port.reset, back := Port.reset }) ∧
  (∀ (c : Instr) (s : State), s.resetAsserted = true →
    c ≠ .hardwareReset → c ≠ .resetRelease → c ≠ .feedfltAssert → c ≠ .feedfltClear →
    exec c s = .next s) ∧
  (∀ s : State, s.resetAsserted = true →
    exec .feedfltAssert s = .next { s with feedLine := true } ∧
    exec .feedfltClear s = .next { s with feedLine := false }) ∧
  (∀ s : State, s.resetAsserted = true → ∃ t, exec .resetRelease s = .next t ∧
    Sends (if s.feedLine then [.notice (.feedFault true 0)] else []) []
      { State.reset with pending := s.pending, now := s.now, serial := s.serial, draws := s.draws,
                         feedLine := s.feedLine, feedFault := s.feedLine } t) ∧
  (∀ s : State, s.resetAsserted = false → exec .resetRelease s = .next s)

/-- FEEDFLT: a change of the line sets the feed-fault state and places a FEED FAULT notice; at a change to
clear a consideration grants lane after lane until the candidate does not fit, and the records are the old
ones followed by those of lanes that waited (R140, R142, R145).  A line that is already at the level
changes nothing.  That the notice at the clearing carries the sum before the grants is the model's choice
(log entry 35). -/
def Obligations.FeedFaultFollowsTheLine : Prop :=
  (∀ s : State, s.resetAsserted = false → s.feedLine = false → ∃ t, exec .feedfltAssert s = .next t ∧
    Sends [.notice (.feedFault true s.strokeSum)] [] { s with feedLine := true, feedFault := true }
      t) ∧
  (∀ s : State, (s.feedLine = true → exec .feedfltAssert s = .next s) ∧
    (s.feedLine = false → exec .feedfltClear s = .next s)) ∧
  (∀ s : State, s.resetAsserted = false → s.feedLine = true → ∃ t, exec .feedfltClear s = .next t ∧
    s.front.Took [.notice (.feedFault false s.strokeSum)] t.front ∧ (∃ new, Granted new s t) ∧
    t = { s with feedLine := false, feedFault := false, serial := t.serial, front := t.front,
                 back := t.back, pipes := t.pipes, strokes := t.strokes, pointer := t.pointer })

/-! ## The links -/

/-- Sending: an idle port with a frame begins to send it; a collision makes the port wait 200 µs plus
40 µs times a number from 0 to 15, which is left open, with its queue kept; after the wait it sends
again (R172). The line carries its bytes then and is not idle (log entry 44). The count of draws is the
model's own field (log entry 3). -/
def Obligations.PortSendsAndBacksOff : Prop :=
  (∀ (l : Link) (s : State), s.resetAsserted = false → (s.port l).transmitter = .idle →
    (s.port l).queue ≠ [] →
    exec (.frameSendStart l) s = .next (s.onPort l fun p =>
      { p with transmitter := .sending, idle := false, lastLine := s.now })) ∧
  (∀ (l : Link) (s : State), s.resetAsserted = false → (s.port l).transmitter = .sending →
    ∃ k : Fin 16, exec (.sendCollision l) s =
      .next ({ s with draws := s.draws + 1 }.onPort l fun p =>
        { p with transmitter := .backoff (200 + 40 * k.val), idle := false, lastLine := s.now })) ∧
  (∀ (l : Link) (s : State) (m : Nat), s.resetAsserted = false →
    (s.port l).transmitter = .backoff m →
    exec (.backoffExpiry l) s = .next (s.onPort l fun p =>
      { p with transmitter := .sending, idle := false, lastLine := s.now }))

/-- A frame that has been sent leaves its queue. The send of the latest frame of a transfer in REQUEST
or STATUS starts the reply timer (R82), the send of the DROP GO of the order now in a lane's dropping
position starts its drop timer (R124), and the send of another frame starts no timer. Frames are known
by their serials, the model's own field (log entry 8); the line is not idle then (log entry 44). -/
def Obligations.SentFrameLeavesAndStartsItsTimer : Prop :=
  (∀ (s : State) (q : Queued) (rest : List Queued) (ph : Phase) (n tag : Nat) (e : Option Nat),
    s.resetAsserted = false → s.front.transmitter = .sending → s.front.queue = q :: rest →
    ((∃ a b c d, q.frame = .voucherRequest tag a b c d) ∨
      (∃ a b c, q.frame = .voucherLines tag a b c) ∨ (∃ a, q.frame = .statusQuery tag a)) →
    s.transfer = .running ph n tag e q.serial → ph ≠ .data →
    exec (.frameSent .front) s =
      .next { s with front := { s.front with queue := rest, transmitter := .idle,
                                             idle := false, lastLine := s.now },
                     transfer := .running ph n tag (some (s.now + s.params.voucherTimeout))
                       q.serial }) ∧
  (∀ (s : State) (q : Queued) (rest : List Queued) (i : Fin 12) (h : Nat) (d : Dropping),
    s.resetAsserted = false → s.back.transmitter = .sending → s.back.queue = q :: rest →
    q.frame = .dropGo (laneNo i) h → (s.pipes[i]).dropping = some d → d.go = q.serial →
    exec (.frameSent .back) s =
      .next ({ s with back := { s.back with queue := rest, transmitter := .idle,
                                            idle := false, lastLine := s.now } }.setPipe i
        { s.pipes[i] with
          dropping := some { d with expiry := some (s.now + s.params.dropTimeout) } })) ∧
  (∀ (l : Link) (s : State) (q : Queued) (rest : List Queued),
    s.resetAsserted = false → (s.port l).transmitter = .sending → (s.port l).queue = q :: rest →
    (∀ ph n tag e, s.transfer ≠ .running ph n tag e q.serial) →
    (∀ (i : Fin 12) d, (s.pipes[i]).dropping = some d → d.go ≠ q.serial) →
    exec (.frameSent l) s =
      .next (s.onPort l fun p => { p with queue := rest, transmitter := .idle, idle := false,
                                          lastLine := s.now }))

/-- A held frame takes the room that has appeared, oldest first (R173). Where it is the last VOUCHER
LINES frame of a transfer in DATA, the transfer goes to STATUS (R84). (The place of held frames: log
entry 9.) -/
def Obligations.HeldFrameTakesTheRoom : Prop :=
  ∀ (l : Link) (s : State) (q : Queued) (rest : List Queued), s.resetAsserted = false →
    (s.port l).held = q :: rest → (s.port l).queue.length < capacityOf l →
    ∃ t, exec (.heldFramePlaced l) s = .next t ∧
      t = { s.onPort l (fun p => { p with queue := p.queue ++ [q], held := rest }) with
            transfer := t.transfer } ∧
      (∀ n tag e, s.transfer = .running .data n tag e q.serial →
        t.transfer = .running .status n tag e q.serial) ∧
      ((∀ n tag e, s.transfer ≠ .running .data n tag e q.serial) → t.transfer = s.transfer)

/-- Reception (R170, R171): the bytes of a complete frame that passes the checks become the command of
its kind, a frame whose check differs becomes its discard, a discard changes nothing, a gap loses the
bytes so far, and the check of the nine bytes of the manual's example is 0x29B1. The causes of a
discard are spelled out: a length above 64, a check that differs, a destination other than 0, a source
that is no address of the link, a kind that the source may not send; and so are the kinds with their
commands, and the code and the arguments of each management command (R174, R175; widths log entry 15).
A frame begins with the first byte that follows an idle line: a byte outside a frame that follows none
is not taken, and the bytes of a frame after an idle line become its command, with the line then not
idle. When the line is idle is log entry 44. A byte takes ten bits of 4 µs on the line, the least
significant data bit first, and the ten bits give the byte back. The levels of the start and the stop
bit, and that a timeout without a gap of more than 1 ms does nothing, are the model's (log entries 33,
42). -/
def Obligations.CompleteFrameBecomesItsCommand : Prop :=
  (∀ (l : Link) (src kind : Nat) (payload : List Byte), payload.length ≤ 64 →
    sourceOk l src = true → kindAllowed l src kind = true →
    let body := [0#8, BitVec.ofNat 8 src, BitVec.ofNat 8 kind, BitVec.ofNat 8 payload.length] ++
      payload
    receive l (body ++ be 2 (crc body)) = frameCommand l src kind payload ∧
    ∀ check : List Byte, check ≠ be 2 (crc body) →
      receive l (body ++ check) = .frameDiscard l .badCheck) ∧
  (∀ (l : Link) (dst src kind len : Byte) (payload check : List Byte),
    payload.length = len.toNat → check.length = 2 →
    let bytes := dst :: src :: kind :: len :: (payload ++ check)
    let fits := len.toNat ≤ 64
    let checks := check = be 2 (crc (dst :: src :: kind :: len :: payload))
    let from_ : Prop := match l with
      | .front => (1 ≤ src.toNat ∧ src.toNat ≤ 8) ∨ src.toNat = 14 ∨ src.toNat = 15
      | .back => 1 ≤ src.toNat ∧ src.toNat ≤ 12
    let may : Prop := match l with
      | .front => (1 ≤ src.toNat ∧ src.toNat ≤ 8 ∧ 1 ≤ kind.toNat ∧ kind.toNat ≤ 4) ∨
          (src.toNat = 14 ∧ (kind.toNat = 0x28 ∨ kind.toNat = 0x29)) ∨
          (src.toNat = 15 ∧ kind.toNat = 0x31)
      | .back => kind.toNat = 0x48 ∨ kind.toNat = 0x49
    (¬fits → receive l bytes = .frameDiscard l .badLength) ∧
    (fits → ¬checks → receive l bytes = .frameDiscard l .badCheck) ∧
    (fits → checks → dst ≠ 0 → receive l bytes = .frameDiscard l .badDestination) ∧
    (fits → checks → dst = 0 → ¬from_ → receive l bytes = .frameDiscard l .badSource) ∧
    (fits → checks → dst = 0 → from_ → ¬may → receive l bytes = .frameDiscard l .badKind) ∧
    (fits → checks → dst = 0 → from_ → may →
      (kind = 0x01 → receive l bytes = .announce src.toNat payload) ∧
      (kind = 0x02 → receive l bytes = .itemReport src.toNat payload) ∧
      (kind = 0x03 → receive l bytes = .itemWithdraw src.toNat payload) ∧
      (kind = 0x04 → receive l bytes = .sessionClose src.toNat payload) ∧
      (kind = 0x28 → receive l bytes = .requestAccepted src.toNat payload) ∧
      (kind = 0x29 → receive l bytes = .voucherStatus src.toNat payload) ∧
      (kind = 0x48 → receive l bytes = .dropDone src.toNat payload) ∧
      (kind = 0x49 → receive l bytes = .laneReport src.toNat payload) ∧
      ∀ tag code args, kind = 0x31 → payload = tag :: code :: args →
        receive l bytes = commandOf tag code.toNat args)) ∧
  (∀ (c : Instr) (tag : Byte) (code : Nat) (args : List Byte), c.wf = true →
    commandBytes c = some (tag, code, args) → commandOf tag code args = c) ∧
  (∀ (l : Link) (cause : DiscardCause) (s : State), exec (.frameDiscard l cause) s = .next s) ∧
  (∀ (l : Link) (s : State), s.resetAsserted = false →
    ((s.port l).lastByte + 1 < s.now →
      exec (.frameGapTimeout l) s = .next (s.onPort l fun p => { p with incoming := [] }) ∧
      ∀ b : Byte, s.byteArrives l b =
        (s.onPort l fun p => { p with incoming := [] }).byteArrives l b) ∧
    (s.now ≤ (s.port l).lastByte + 1 → exec (.frameGapTimeout l) s = .next s)) ∧
  (∀ (l : Link) (b : Byte) (s : State), s.resetAsserted = false → (s.port l).incoming = [] →
    (s.port l).idle = false →
    ((s.port l).transmitter = .sending ∨ s.now ≤ (s.port l).lastLine + 1) →
    s.byteArrives l b =
      s.onPort l fun p => { p with lastByte := s.now, lastLine := s.now }) ∧
  (∀ (l : Link) (d src kind len : Byte) (rest : List Byte) (s : State), s.resetAsserted = false →
    (s.port l).incoming = [] → (s.port l).idle = true → rest.length = len.toNat + 2 →
    (d :: src :: kind :: len :: rest).foldl (fun u b => u.byteArrives l b) s =
      { s.onPort l (fun p => { p with idle := false, lastByte := s.now, lastLine := s.now }) with
        pending := s.pending ++ [receive l (d :: src :: kind :: len :: rest)] }) ∧
  (∀ (l : Link) (s : State), s.resetAsserted = false → (s.port l).transmitter ≠ .sending →
    s.lineFallsIdle l = s.onPort l fun p => { p with idle := true }) ∧
  (∀ b : Byte, lineBits b = false :: (List.range 8).map b.getLsbD ++ [true] ∧
    (lineBits b).length * Config.bitMicros = 40 ∧
    ∀ (l : Link) (s : State), s.bitsArrive l (lineBits b) = s.byteArrives l b) ∧
  crc [0x31#8, 0x32#8, 0x33#8, 0x34#8, 0x35#8, 0x36#8, 0x37#8, 0x38#8, 0x39#8] = 0x29B1

/-! ## The Article Table, the keys and the class values -/

/-- LOAD ARTICLE (R5): an entry that passes the checks replaces the entry of its key, or joins the
table, or is refused when 2048 entries are present; one that does not pass is refused first. The checks
(R1, R4) are spelled out field by field; the fields that do not belong to the entry's kind are not
checked. The number stored is the one normalised to the span (R2), and every other key keeps its entry.
-/
def Obligations.LoadArticleStoresOneEntry : Prop :=
  (∀ r : RawEntry,
    (checkEntry r = none ↔
      999999999999 < r.number ∨ 2 < r.span ∨ 1 < r.kind ∨ 15 < r.depositClass ∨ r.scheme = 0 ∨
      255 < r.scheme ∨ r.producer = 0 ∨ 4095 < r.producer ∨ 7 < r.own ∨ 7 < r.partner ∨
      7 < r.foreign ∨ 4 < r.check ∨ r.nominalHeight < 40 ∨ 450 < r.nominalHeight ∨
      31 < r.heightTolerance ∨
      (r.kind = 0 ∧ (3 < r.material ∨ r.nominalMass = 0 ∨ 2000 < r.nominalMass ∨
        255 < r.massTolerance ∨ 255 < r.residue ∨ r.volume = 0 ∨ 3000 < r.volume)) ∨
      (r.kind = 1 ∧ (r.slots = 0 ∨ 30 < r.slots ∨ 999999999999 < r.bottleNumber))) ∧
    ∀ e, checkEntry r = some e → e.Ok ∧ e.number = normalise r.number e.span ∧
      e.span.code = r.span ∧ e.depositClass.val = r.depositClass ∧ e.scheme = r.scheme ∧
      e.producer = r.producer ∧ e.own = ⟨r.own.testBit 0, r.own.testBit 1, r.own.testBit 2⟩ ∧
      e.partner = ⟨r.partner.testBit 0, r.partner.testBit 1, r.partner.testBit 2⟩ ∧
      e.foreign = ⟨r.foreign.testBit 0, r.foreign.testBit 1, r.foreign.testBit 2⟩ ∧
      e.check.code = r.check ∧ e.nominalHeight = r.nominalHeight ∧
      e.heightTolerance = r.heightTolerance ∧
      match e.body with
      | .container m mass tolerance residue volume => r.kind = 0 ∧ m.code = r.material ∧
        mass = r.nominalMass ∧ tolerance = r.massTolerance ∧ residue = r.residue ∧
        volume = r.volume
      | .crate slots bottle => r.kind = 1 ∧ slots = r.slots ∧ bottle = r.bottleNumber) ∧
  ∀ (tag : Byte) (r : RawEntry) (s : State), s.resetAsserted = false → ArticlesOk s →
    (checkEntry r = none → ∃ t, exec (.loadArticle tag r) s = .next t ∧
      Sends (replyFrames tag 1 .badValue (be 2 s.articles.length)) [] s t) ∧
    (∀ e, checkEntry r = some e → e.number = normalise r.number e.span ∧
      ((findEntry s.articles e.number e.span).isSome = true →
        ∃ t arts, exec (.loadArticle tag r) s = .next t ∧
          Sends (replyFrames tag 1 .ok (be 1 1 ++ be 2 s.articles.length)) []
            { s with articles := arts } t ∧
          arts.length = s.articles.length ∧
          ∀ n sp, findEntry arts n sp =
            if keyCode n sp = e.key then some e else findEntry s.articles n sp) ∧
      (findEntry s.articles e.number e.span = none → s.articles.length < 2048 →
        ∃ t arts, exec (.loadArticle tag r) s = .next t ∧
          Sends (replyFrames tag 1 .ok (be 1 0 ++ be 2 (s.articles.length + 1))) []
            { s with articles := arts } t ∧
          arts.length = s.articles.length + 1 ∧
          ∀ n sp, findEntry arts n sp =
            if keyCode n sp = e.key then some e else findEntry s.articles n sp) ∧
      (findEntry s.articles e.number e.span = none → s.articles.length = 2048 →
        ∃ t, exec (.loadArticle tag r) s = .next t ∧
          Sends (replyFrames tag 1 .tableFull (be 2 2048)) [] s t))

/-- REMOVE ARTICLE (R6): the entry of the normalised key goes and no other; NOT_FOUND where there is none;
BAD_VALUE for a span or a number out of range. -/
def Obligations.RemoveArticleTouchesOneKey : Prop :=
  ∀ (tag : Byte) (number span : Nat) (s : State), s.resetAsserted = false → ArticlesOk s →
    ((Span.ofCode span = none ∨ 999999999999 < number) →
      ∃ t, exec (.removeArticle tag number span) s = .next t ∧
        Sends (replyFrames tag 2 .badValue (be 2 s.articles.length)) [] s t) ∧
    (∀ sp, Span.ofCode span = some sp → number ≤ 999999999999 →
      (findEntry s.articles (normalise number sp) sp = none →
        ∃ t, exec (.removeArticle tag number span) s = .next t ∧
          Sends (replyFrames tag 2 .notFound (be 2 s.articles.length)) [] s t) ∧
      ((findEntry s.articles (normalise number sp) sp).isSome = true →
        ∃ t arts, exec (.removeArticle tag number span) s = .next t ∧
          Sends (replyFrames tag 2 .ok (be 2 (s.articles.length - 1))) []
            { s with articles := arts } t ∧
          arts.length = s.articles.length - 1 ∧
          ∀ n sp', findEntry arts n sp' =
            if keyCode n sp' = keyCode (normalise number sp) sp then none
            else findEntry s.articles n sp'))

/-- CLEAR TABLE (R8): every entry goes, unless a referral record is present; keys and class values are not
touched. -/
def Obligations.ClearTableWaitsForReferrals : Prop :=
  ∀ (tag : Byte) (s : State), s.resetAsserted = false →
    (s.referrals = [] → ∃ t, exec (.clearTable tag) s = .next t ∧
      Sends (replyFrames tag 4 .ok (be 2 0)) [] { s with articles := [] } t) ∧
    (s.referrals ≠ [] → ∃ t, exec (.clearTable tag) s = .next t ∧
      Sends (replyFrames tag 4 .notIdle (be 2 s.articles.length)) [] s t)

/-- READ ARTICLE (R7, R9): the key form answers the entry of the normalised key, the lookup form the entry
of the narrowest span that covers the number; where there is none the answer is NOT_FOUND; both change
nothing.  The widths of an entry's fields in the answer are the model's (log entry 15). -/
def Obligations.ReadArticleAnswersTheEntry : Prop :=
  (∀ (tag : Byte) (number span : Nat) (sp : Span) (e : Entry) (s : State),
    s.resetAsserted = false → Span.ofCode span = some sp → number ≤ 999999999999 →
    findEntry s.articles (normalise number sp) sp = some e →
    ∃ t, exec (.readArticleKey tag number span) s = .next t ∧
      Sends (replyFrames tag 3 .ok e.bytes) [] s t) ∧
  (∀ (tag : Byte) (number span : Nat) (sp : Span) (s : State),
    s.resetAsserted = false → Span.ofCode span = some sp → number ≤ 999999999999 →
    findEntry s.articles (normalise number sp) sp = none →
    ∃ t, exec (.readArticleKey tag number span) s = .next t ∧
      Sends (replyFrames tag 3 .notFound []) [] s t) ∧
  (∀ (tag : Byte) (number : Nat) (e : Entry) (s : State), s.resetAsserted = false →
    number ≤ 999999999999 →
    (findEntry s.articles number .exact = some e ∨
      findEntry s.articles number .exact = none ∧
        (findEntry s.articles (normalise number .tens) .tens = some e ∨
          findEntry s.articles (normalise number .tens) .tens = none ∧
            findEntry s.articles (normalise number .hundreds) .hundreds = some e)) →
    ∃ t, exec (.readArticleLookup tag number) s = .next t ∧
      Sends (replyFrames tag 3 .ok e.bytes) [] s t) ∧
  (∀ (tag : Byte) (number : Nat) (s : State), s.resetAsserted = false → number ≤ 999999999999 →
    findEntry s.articles number .exact = none →
    findEntry s.articles (normalise number .tens) .tens = none →
    findEntry s.articles (normalise number .hundreds) .hundreds = none →
    ∃ t, exec (.readArticleLookup tag number) s = .next t ∧
      Sends (replyFrames tag 3 .notFound []) [] s t)

/-- LOAD KEY and CLEAR KEY (R17, R18): with a clear scheme row the slot takes the key or becomes empty;
with a row that is not clear the command is refused, after the range checks. -/
def Obligations.KeysChangeOnlyOverAClearRow : Prop :=
  (∀ (tag : Byte) (i : Fin 4) (scheme producer : Nat) (s : State), s.resetAsserted = false →
    1 ≤ scheme → scheme ≤ 255 → producer ≤ 4095 →
    ((s.rows[i.succ]).isClear = true → ∃ t, exec (.loadKey tag (i.val + 1) scheme producer) s = .next t ∧
      Sends (replyFrames tag 5 .ok []) []
        { s with keys := s.keys.set i.val (some ⟨scheme, producer⟩) i.isLt } t) ∧
    ((s.rows[i.succ]).isClear = false → ∃ t, exec (.loadKey tag (i.val + 1) scheme producer) s = .next t ∧
      Sends (replyFrames tag 5 .countersNotClear []) [] s t)) ∧
  (∀ (tag : Byte) (slot scheme producer : Nat) (s : State), s.resetAsserted = false →
    (slot = 0 ∨ 4 < slot ∨ scheme = 0 ∨ 255 < scheme ∨ 4095 < producer) →
    ∃ t, exec (.loadKey tag slot scheme producer) s = .next t ∧
      Sends (replyFrames tag 5 .badValue []) [] s t) ∧
  (∀ (tag : Byte) (i : Fin 4) (s : State), s.resetAsserted = false →
    ((s.rows[i.succ]).isClear = true → ∃ t, exec (.clearKey tag (i.val + 1)) s = .next t ∧
      Sends (replyFrames tag 6 .ok []) [] { s with keys := s.keys.set i.val none i.isLt } t) ∧
    ((s.rows[i.succ]).isClear = false → ∃ t, exec (.clearKey tag (i.val + 1)) s = .next t ∧
      Sends (replyFrames tag 6 .countersNotClear []) [] s t))

/-- READ KEYS (R19): the four slots and whether the list is enabled, and nothing changes. The widths of
the slots and the coding of "enabled" are the model's (log entries 15, 34). -/
def Obligations.ReadKeysAnswersTheSlots : Prop :=
  ∀ (tag : Byte) (s : State), s.resetAsserted = false → ∃ t, exec (.readKeys tag) s = .next t ∧
    Sends (replyFrames tag 7 .ok
      (slotField s.keys[0] ++ slotField s.keys[1] ++ slotField s.keys[2] ++ slotField s.keys[3] ++
        be 1 (if s.keys[0].isSome then 1 else 0))) [] s t

/-- SET CLASS VALUE and READ CLASS VALUES (R20, R21): the value of a class from 1 to 15 is stored as it is
given, from 0 to 9,999; class 0 and a higher value are refused; the read gives all sixteen. -/
def Obligations.ClassValuesAreSetAndRead : Prop :=
  (∀ (tag : Byte) (c : Fin 16) (v : Nat) (s : State), s.resetAsserted = false → c ≠ 0 → v ≤ 9999 →
    ∃ t, exec (.setClassValue tag c.val v) s = .next t ∧
      Sends (replyFrames tag 8 .ok []) []
        { s with classValues := s.classValues.set c.val v c.isLt } t) ∧
  (∀ (tag : Byte) (c v : Nat) (s : State), s.resetAsserted = false →
    (c = 0 ∨ 15 < c ∨ 9999 < v) → ∃ t, exec (.setClassValue tag c v) s = .next t ∧
      Sends (replyFrames tag 8 .badValue []) [] s t) ∧
  (∀ (tag : Byte) (s : State), s.resetAsserted = false → ∃ t, exec (.readClassValues tag) s = .next t ∧
    Sends (replyFrames tag 9 .ok (s.classValues.toList.flatMap (be 2))) [] s t)

/-- The tables and the parameters change only by the commands that the manual gives them: frames of
stations, till bridge and lane drivers, timers and all other commands leave them (R5 to R8, R17, R18,
R21, R54, R178, R180). -/
def Obligations.TablesChangeOnlyByTheirCommands : Prop :=
  ∀ (c : Instr) (s : State), ∃ t, exec c s = .next t ∧
    ((c ≠ .resetRelease ∧ (∀ tag r, c ≠ .loadArticle tag r) ∧
      (∀ tag n sp, c ≠ .removeArticle tag n sp) ∧ (∀ tag, c ≠ .clearTable tag) ∧
      (∀ tag n r, c ≠ .referralAnswerEntry tag n r)) → t.articles = s.articles) ∧
    ((c ≠ .resetRelease ∧ (∀ tag a b d, c ≠ .loadKey tag a b d) ∧ (∀ tag a, c ≠ .clearKey tag a)) →
      t.keys = s.keys) ∧
    ((c ≠ .resetRelease ∧ (∀ tag a v, c ≠ .setClassValue tag a v)) →
      t.classValues = s.classValues) ∧
    ((c ≠ .resetRelease ∧ (∀ tag a v, c ≠ .setParameter tag a v) ∧
      (∀ tag a v, c ≠ .setParameterStroke tag a v)) → t.params = s.params)

/-! ## Evaluations -/

/-- Step 1 (R28): a report from a station that is not OPERATING or PAUSED, or that repeats the sequence
of a held item, is ignored; PAUSED and a full count of held items are answered RETURN PAUSED and RETURN
BUSY, which are counted and open no session. Steps 2 to 9 (R29 to R40, R50, R51): a session in CLOSING
is answered RETURN CLOSED, a full Session Table RETURN NO_SESSION_ROOM, and for an OPEN session the
step that fails gives its RETURN, with the session's number and running credit, after the idle timer
has been started again; it is counted and nothing else changes. The tests of step 5 (R32 to R34) and
the rights determination of step 6 (R13 to R15) are spelled out. -/
def Obligations.StepOneTestsStationAndSequence : Prop :=
  (∀ (src : Nat) (payload : List Byte) (st : Fin 8) (r : Report) (s : State),
    s.resetAsserted = false → stationIx src = some st → parseReport payload = some r →
    (((s.stations[st]).state ≠ .operating ∧ (s.stations[st]).state ≠ .paused) →
      exec (.itemReport src payload) s = .next s) ∧
    (s.isHeld st r.seq = true → exec (.itemReport src payload) s = .next s) ∧
    ((s.stations[st]).state = .paused → s.isHeld st r.seq = false →
      ∃ t, exec (.itemReport src payload) s = .next t ∧
        Sends [returnVerdict s st r.seq .paused] [] (s.countReturn .paused) t) ∧
    ((s.stations[st]).state = .operating → s.isHeld st r.seq = false → s.isBusy st = true →
      ∃ t, exec (.itemReport src payload) s = .next t ∧
        Sends [returnVerdict s st r.seq .busy] [] (s.countReturn .busy) t) ∧
    ((s.stations[st]).state = .operating → s.isHeld st r.seq = false → s.isBusy st = false →
      (∀ x, s.current? st = some x → x.state ≠ .opened →
        ∃ t, exec (.itemReport src payload) s = .next t ∧
          Sends [returnVerdict s st r.seq .closed] [] (s.countReturn .closed) t) ∧
      (s.current? st = none → 16 ≤ s.sessions.length →
        ∃ t, exec (.itemReport src payload) s = .next t ∧
          Sends [returnVerdict s st r.seq .noSessionRoom] [] (s.countReturn .noSessionRoom) t) ∧
      (∀ x reason, SessionsOk s → s.current? st = some x → x.state = .opened →
        StepFails s x r reason →
        ∃ t, exec (.itemReport src payload) s = .next t ∧
          Sends [returnVerdict s st r.seq reason] []
            ((s.onSession x.number fun y => { y with
              lastItem := s.now, idleExpiry := idleExpiryAt s.now s.params.idleTime }).countReturn
                reason) t))) ∧
  (∀ (e : Entry) (r : Report),
    let high := e.nominalHeight + e.heightTolerance < r.height ∨
      r.height < e.nominalHeight - e.heightTolerance
    (∀ slots bottle, e.body = .crate slots bottle →
      (high → plausibility e r = .error .shape) ∧ (¬high → plausibility e r = .ok false)) ∧
    (∀ m mass tol res vol, e.body = .container m mass tol res vol →
      let other := r.signature ≠ none ∧ r.signature ≠ some m
      (other → plausibility e r = .error .material) ∧
      (¬other → high → plausibility e r = .error .shape) ∧
      (¬other → ¬high →
        (r.mass = none → plausibility e r = .ok false) ∧
        ∀ g, r.mass = some g →
          (g < mass - tol → plausibility e r = .error .underweight) ∧
          (mass - tol ≤ g → g ≤ mass + tol → plausibility e r = .ok false) ∧
          (mass + tol < g → g ≤ mass + tol + res → plausibility e r = .ok true) ∧
          (mass + tol + res < g → plausibility e r = .error .overweight)))) ∧
  (∀ (keys : Vector (Option SchemeKey) 4) (e : Entry),
    (∀ k : SchemeKey, e.triple k = if k.scheme ≠ e.scheme then e.foreign
      else if k.producer = e.producer then e.own else e.partner) ∧
    (e.check = .blocked → rightsOf keys e = .returnBlocked) ∧
    (e.check = .refer → rightsOf keys e = .refer) ∧
    ((e.check = .opened ∨ (e.check = .strict ∨ e.check = .referOnFail) ∧ keys[0] = none) →
      rightsOf keys e = .accept e.own e.own.credit 0) ∧
    ((e.check = .strict ∨ e.check = .referOnFail) → keys[0] ≠ none →
      let gives := fun (right : Rights → Bool) (i : Fin 4) =>
        ∃ k, keys[i] = some k ∧ right (e.triple k) = true
      (∀ i : Fin 4, gives Rights.credit i → (∀ j < i, ¬gives Rights.credit j) →
        ∃ set, rightsOf keys e = .accept set true i.succ ∧
          (set.refill = true ↔ ∃ j, gives Rights.refill j)) ∧
      (∀ i : Fin 4, (∀ j, ¬gives Rights.credit j) → gives Rights.take i →
        (∀ j < i, ¬gives Rights.take j) →
        ∃ set, rightsOf keys e = .accept set false i.succ ∧
          (set.refill = true ↔ ∃ j, gives Rights.refill j)) ∧
      ((∀ j, ¬gives Rights.credit j ∧ ¬gives Rights.take j) →
        rightsOf keys e = if e.check = .strict then .returnRights else .refer)))

/-- A report of a known container at an OPERATING station with an OPEN session, which passes the tests
of steps 5 to 7 and finds a lane, is accepted (R37, R40 to R43, R99, R121, R150, R152): the session
gains the credit up to its cap and one item, the lane reserves the fill, the item gets a handle that
stands in no lane position, its drop order is the last of the lane's orders and no other lane's orders
change, the scheme cell, the cap excess and the residue mark are counted and no other total, and the
VERDICT is the last frame. A crate (R36, R37, R43, R151): the foreign bottles are clamped, the crate
and the bottle portion make its credit, their shares go to the two voucher lines, the crate and its own
bottles are counted in their cells and the foreign bottles in their total (a crate that earns nothing
touches no line: log entry 18, the model's reading of R43). A line takes its count and share, and no
line of another class changes. A report that opens a session (R29, R62 to R64): the new record has a
number from 1 to 65,535 that no record holds, the cap as it stands, credit 0 and its idle timer, and
the report is evaluated as one of that OPEN session. -/
def Obligations.KnownContainerIsAccepted : Prop :=
  (∀ (src n : Nat) (payload : List Byte) (st : Fin 8) (r : Report) (x : Session) (e : Entry)
    (set : Rights) (credit mark : Bool) (row : Fin 5) (i : Fin 12) (s : State),
    s.resetAsserted = false → SessionsOk s → QueuesOk s → stationIx src = some st →
    parseReport payload = some r → (s.stations[st]).state = .operating →
    s.isHeld st r.seq = false → s.isBusy st = false → s.current? st = some x → x.state = .opened →
    r.number = some n → lookup s.articles n = some e → e.kind = .container →
    plausibility e r = .ok mark → rightsOf s.keys e = .accept set credit row →
    let c := if credit then s.classValues[e.depositClass] else 0
    let a := min c (x.cap - x.credit)
    let fill := itemFill .container e.volume s.lanes[i]
    sessionFull x c = false →
    s.chooseLane (routeOf e set) (itemFill .container e.volume) none = some i →
    ∃ (t : State) (pre : List Frame), exec (.itemReport src payload) s = .next t ∧
      t.session? x.number = some { x with
        credit := x.credit + a, accepted := x.accepted + 1,
        lines := if credit then addLine e.depositClass 1 a x.lines else x.lines,
        lastItem := s.now, idleExpiry := idleExpiryAt s.now s.params.idleTime } ∧
      (t.lanes[i]).reserved = (s.lanes[i]).reserved + fill ∧
      (t.lanes[i]).committed = (s.lanes[i]).committed ∧
      (∀ j, j ≠ i → t.lanes[j] = s.lanes[j]) ∧
      (∀ m, m ≠ x.number → t.session? m = s.session? m) ∧
      t = { s with serial := t.serial, front := t.front, back := t.back, sessions := t.sessions,
                   lastHandle := t.lastHandle, lanes := t.lanes, pipes := t.pipes,
                   strokes := t.strokes, pointer := t.pointer, rows := t.rows,
                   totals := t.totals } ∧
      (1 ≤ t.lastHandle ∧ t.lastHandle ≤ 65535 ∧ t.lastHandle ∉ s.handles) ∧
      t.rows = (s.onCell row e.column (if credit then Cell.credit 1 a else Cell.take 1)).rows ∧
      t.totals.capExcess = riseValue s.totals.capExcess (c - a) ∧
      (CountersOk s → t.totals = { s.totals with
        capExcess := riseValue s.totals.capExcess (c - a),
        residueMarked := if mark then riseCount s.totals.residueMarked 1
          else s.totals.residueMarked }) ∧
      (LanesOk s →
        (t.pipes[i]).orders = (s.pipes[i]).orders ++
          [{ handle := t.lastHandle, fill := fill, kind := .container, station := st }] ∧
        ∀ j : Fin 12, j ≠ i → (t.pipes[j]).orders = (s.pipes[j]).orders) ∧
      (pre = [] ∨ ∃ k, pre = [.notice k]) ∧
      s.front.Took (pre ++ [.verdict (stationNo st)
        { seq := r.seq, kind := if credit then .credit else .take, credit := some c,
          credited := some a, session := some x.number, running := some (x.credit + a),
          residue := some mark, foreign := none }]) t.front) ∧
  (∀ (src n : Nat) (payload : List Byte) (st : Fin 8) (r : Report) (x : Session) (e : Entry)
    (set : Rights) (credit mark : Bool) (row : Fin 5) (i : Fin 12) (s : State),
    s.resetAsserted = false → SessionsOk s → QueuesOk s → stationIx src = some st →
    parseReport payload = some r → (s.stations[st]).state = .operating →
    s.isHeld st r.seq = false → s.isBusy st = false → s.current? st = some x → x.state = .opened →
    r.number = some n → lookup s.articles n = some e → e.kind = .crate →
    plausibility e r = .ok mark → rightsOf s.keys e = .accept set credit row →
    let c₀ := ownCredit s e credit
    let c := c₀ + bottleCredit s e r
    let a := min c (x.cap - x.credit)
    let a₀ := min a c₀
    sessionFull x c = false → s.chooseLane .crate (fun _ => 1) none = some i →
    ∃ (t : State) (pre : List Frame), exec (.itemReport src payload) s = .next t ∧
      (let ls := if credit then addLine e.depositClass 1 a₀ x.lines else x.lines
       t.session? x.number = some { x with
        credit := x.credit + a, accepted := x.accepted + 1,
        lines := if c = 0 then x.lines else
          match earningBottle s e with
          | some b => addLine b.depositClass (ownBottles r) (a - a₀) ls
          | none => ls,
        lastItem := s.now, idleExpiry := idleExpiryAt s.now s.params.idleTime }) ∧
      (t.lanes[i]).reserved = (s.lanes[i]).reserved + 1 ∧
      (t.lanes[i]).committed = (s.lanes[i]).committed ∧
      (∀ j, j ≠ i → t.lanes[j] = s.lanes[j]) ∧
      (∀ m, m ≠ x.number → t.session? m = s.session? m) ∧
      t = { s with serial := t.serial, front := t.front, back := t.back, sessions := t.sessions,
                   lastHandle := t.lastHandle, lanes := t.lanes, pipes := t.pipes,
                   strokes := t.strokes, pointer := t.pointer, rows := t.rows,
                   totals := t.totals } ∧
      (1 ≤ t.lastHandle ∧ t.lastHandle ≤ 65535 ∧ t.lastHandle ∉ s.handles) ∧
      (let u := s.onCell row .crate (if credit then Cell.credit 1 a₀ else Cell.take 1)
       t.rows = (match bottleLookup s.articles e with
        | none => u
        | some b =>
          if (bottleRights s.keys b).1 then
            u.onCell (bottleRights s.keys b).2 b.column (Cell.credit (ownBottles r) (a - a₀))
          else u.onCell 0 b.column (Cell.take (ownBottles r))).rows) ∧
      (CountersOk s → t.totals = { s.totals with
        capExcess := riseValue s.totals.capExcess (c - a),
        foreignBottles := riseCount s.totals.foreignBottles (foreignBottles r) }) ∧
      (LanesOk s →
        (t.pipes[i]).orders = (s.pipes[i]).orders ++
          [{ handle := t.lastHandle, fill := 1, kind := .crate, station := st }] ∧
        OtherOrdersKept i s t) ∧
      (pre = [] ∨ ∃ k, pre = [.notice k]) ∧
      s.front.Took (pre ++ [.verdict (stationNo st)
        { seq := r.seq, kind := if credit then .credit else .take, credit := some c,
          credited := some a, session := some x.number, running := some (x.credit + a),
          residue := some mark, foreign := some (foreignBottles r) }]) t.front) ∧
  (∀ (cls k : Fin 16) (count share : Nat) (ls : List VoucherLine),
    (ls.map fun l => l.cls.val).Pairwise (· < ·) →
    (addLine cls count share ls).find? (fun l => l.cls == k) =
      if k ≠ cls then ls.find? fun l => l.cls == k
      else match ls.find? fun l => l.cls == cls with
        | some l => some { l with count := l.count + count, value := l.value + share }
        | none => if share = 0 then none else some ⟨cls, count, share⟩) ∧
  (∀ (src : Nat) (payload : List Byte) (st : Fin 8) (r : Report) (s : State),
    s.resetAsserted = false → SessionsOk s → stationIx src = some st →
    parseReport payload = some r → (s.stations[st]).state = .operating →
    s.isHeld st r.seq = false → s.isBusy st = false → s.current? st = none →
    s.sessions.length < 16 →
    let next := if s.lastSession < 65535 then s.lastSession + 1 else 1
    ∃ (u : State) (k : Nat), (1 ≤ k ∧ k ≤ 65535 ∧ ∀ x ∈ s.sessions, x.number ≠ k) ∧
      ((∀ x ∈ s.sessions, x.number ≠ next) → k = next) ∧
      u = { s with sessions := u.sessions, lastSession := k } ∧ SessionsOk u ∧
      u.sessions.length = s.sessions.length + 1 ∧
      u.session? k = some
        { number := k, station := st, state := .opened, cap := s.params.sessionCap, credit := 0,
          accepted := 0, lines := [], held := 0, disposition := none, issueTag := none,
          voucherNumber := none, outcome := none, lastItem := s.now,
          idleExpiry := if s.params.idleTime = 0 then none
            else some (s.now + 1000 * s.params.idleTime) } ∧
      (∀ m, m ≠ k → u.session? m = s.session? m) ∧ u.current? st = u.session? k ∧
      exec (.itemReport src payload) s = exec (.itemReport src payload) u ∧
      ∃ t, exec (.itemReport src payload) s = .next t ∧ t.lastSession = k)

/-- A report of an unknown article (R31, R44, R50, R52): with room in the list and no MISS record of
the number, a MISS record is made with the item as its only one, the REFERRAL notice goes ahead of the
HOLD, and both counts of held items rise. With a MISS record of the number the item joins it at the
tail, with the expiry unchanged and no notice. A known article whose rights determination is refer
(R35, R51) makes a DECISION record with the entry as its snapshot and the working record as its only
item. A request that is not taken is one of the RETURNs of O19. -/
def Obligations.UnknownArticleIsHeld : Prop :=
  (∀ (src n : Nat) (payload : List Byte) (st : Fin 8) (r : Report) (x : Session) (s : State),
    s.resetAsserted = false → SessionsOk s → ReferralsOk s → stationIx src = some st →
    parseReport payload = some r → (s.stations[st]).state = .operating →
    s.isHeld st r.seq = false → s.isBusy st = false → s.current? st = some x → x.state = .opened →
    r.number = some n → lookup s.articles n = none →
    s.referrals.any (Referral.isMiss n) = false → s.referralRoom = true →
    let w : Waiting := { station := st, session := x.number, report := r, bottle := none,
                         residue := false }
    ∃ t k, exec (.itemReport src payload) s = .next t ∧
      (1 ≤ k ∧ k ≤ 255 ∧ ∀ r ∈ s.referrals, r.number ≠ k) ∧ t.lastReferral = k ∧
      t.referral? k = some { number := k, kind := .miss, article := n,
                             expiry := s.now + s.params.referralTimeout, waiting := [w] } ∧
      (∀ m, m ≠ k → t.referral? m = s.referral? m) ∧
      t.heldCounts = s.heldCounts.set st.val (s.heldCounts[st] + 1) st.isLt ∧
      t.session? x.number = some { x with
        held := x.held + 1, lastItem := s.now,
        idleExpiry := idleExpiryAt s.now s.params.idleTime } ∧
      s.front.Took [.notice (.referral k .miss n w s.params.referralTimeout),
        .verdict (stationNo st)
          { seq := r.seq, kind := .hold, credit := none, credited := none,
            session := some x.number, running := some x.credit, residue := none,
            foreign := none }] t.front ∧
      t = { s with serial := t.serial, front := t.front, sessions := t.sessions,
                   heldCounts := t.heldCounts, referrals := t.referrals,
                   lastReferral := t.lastReferral }) ∧
  (∀ (src n : Nat) (payload : List Byte) (st : Fin 8) (r : Report) (x : Session) (f : Referral)
    (s : State), s.resetAsserted = false → SessionsOk s → ReferralsOk s →
    stationIx src = some st → parseReport payload = some r →
    (s.stations[st]).state = .operating → s.isHeld st r.seq = false → s.isBusy st = false →
    s.current? st = some x → x.state = .opened → r.number = some n →
    lookup s.articles n = none → f ∈ s.referrals → IsMissOf n f → s.waitingItems.length < 8 →
    let w : Waiting := { station := st, session := x.number, report := r, bottle := none,
                         residue := false }
    ∃ t, exec (.itemReport src payload) s = .next t ∧
      t.referral? f.number = some { f with waiting := f.waiting ++ [w] } ∧
      (∀ m, m ≠ f.number → t.referral? m = s.referral? m) ∧
      t.referrals.map Referral.number = s.referrals.map Referral.number ∧
      Sends [.verdict (stationNo st)
          { seq := r.seq, kind := .hold, credit := none, credited := none,
            session := some x.number, running := some x.credit, residue := none,
            foreign := none }] []
        { s.onSession x.number (fun y => { y with
            held := x.held + 1, lastItem := s.now,
            idleExpiry := idleExpiryAt s.now s.params.idleTime }) with
          heldCounts := s.heldCounts.set st.val (s.heldCounts[st] + 1) st.isLt,
          referrals := t.referrals } t) ∧
  (∀ (src n : Nat) (payload : List Byte) (st : Fin 8) (r : Report) (x : Session) (e : Entry)
    (mark : Bool) (s : State), s.resetAsserted = false → SessionsOk s → ReferralsOk s →
    stationIx src = some st → parseReport payload = some r →
    (s.stations[st]).state = .operating → s.isHeld st r.seq = false → s.isBusy st = false →
    s.current? st = some x → x.state = .opened → r.number = some n →
    lookup s.articles n = some e → plausibility e r = .ok mark → rightsOf s.keys e = .refer →
    ¬NoReferralRoom s →
    let w : Waiting := { station := st, session := x.number, report := r,
                         bottle := bottleLookup s.articles e, residue := mark }
    ∃ t k, exec (.itemReport src payload) s = .next t ∧
      (1 ≤ k ∧ k ≤ 255 ∧ ∀ f ∈ s.referrals, f.number ≠ k) ∧
      t.referral? k = some { number := k, kind := .decision e, article := n,
                             expiry := s.now + s.params.referralTimeout, waiting := [w] } ∧
      (∀ m, m ≠ k → t.referral? m = s.referral? m) ∧
      t.referrals.length = s.referrals.length + 1 ∧
      Sends [.notice (.referral k (.decision e) n w s.params.referralTimeout),
          .verdict (stationNo st)
            { seq := r.seq, kind := .hold, credit := none, credited := none,
              session := some x.number, running := some x.credit, residue := none,
              foreign := none }] []
        { s.onSession x.number (fun y => { y with
            held := x.held + 1, lastItem := s.now,
            idleExpiry := idleExpiryAt s.now s.params.idleTime }) with
          heldCounts := s.heldCounts.set st.val (s.heldCounts[st] + 1) st.isLt,
          referrals := t.referrals, lastReferral := k } t)

/-! ## Referrals -/

/-- ITEM WITHDRAW (R57): the held item of the station leaves its record without a VERDICT, the counts
fall by one, records left empty are freed with a REFERRAL ENDED notice, and the other items keep their
order. The session is OPEN here; a session in CLOSING goes on with its close. The notice stands before
the frames of a completing close (log entry 24). -/
def Obligations.WithdrawnItemLeavesWithoutVerdict : Prop :=
  (∀ (src seq : Nat) (payload : List Byte) (st : Fin 8) (w : Waiting) (x : Session) (s : State),
    s.resetAsserted = false → stationIx src = some st → oneByte payload = some seq →
    s.waitingItems.find? (Waiting.names st seq) = some w → s.session? w.session = some x →
    x.state = .opened →
    ∃ (t : State) (ended : List Nat), exec (.itemWithdraw src payload) s = .next t ∧
      Sends (ended.map fun n => Frame.notice (.referralEnded n .withdrawn)) []
        { s.unhold w with
          referrals := (s.referrals.map (Referral.without (Waiting.names st seq))).filter
            fun r => !r.waiting.isEmpty } t ∧
      (∀ n, n ∈ ended ↔ ∃ r ∈ s.referrals, r.number = n ∧
        (r.waiting.filter fun v => !Waiting.names st seq v) = [])) ∧
  (∀ (src seq : Nat) (payload : List Byte) (st : Fin 8) (s : State),
    stationIx src = some st → oneByte payload = some seq → s.isHeld st seq = false →
    exec (.itemWithdraw src payload) s = .next s)

/-- REFERRAL EXPIRY (R24, R25, R44, R53): the record is freed, each of its items in the order of the list gets
a VERDICT RETURN REFER_TIMEOUT with its session and that session's running credit, the counts of held
items fall by the items ended, REFER_TIMEOUT is counted once for each, the last frame is the REFERRAL
ENDED notice, and no table changes. -/
def Obligations.ExpiredReferralReturnsItsItems : Prop :=
  ∀ (number : Nat) (r : Referral) (s : State), s.resetAsserted = false →
    CountersOk s → s.referral? number = some r → r.expiry ≤ s.now →
    ∃ (t : State) (pre : List Frame), exec (.referralExpiry number) s = .next t ∧
      t.referrals = s.referrals.filter (·.number != number) ∧
      t.returned = s.returned.set 8 (min (s.returned[8] + r.waiting.length) 99999999) ∧
      FinalVerdicts r.waiting (fun _ k => k = .returned .referTimeout) pre ∧
      HeldFall r.waiting s t ∧
      (SessionsOk s → LinkedOk s →
        pre.filterMap Frame.verdict? = r.waiting.map (waitingReturn s .referTimeout) ∧
        ∀ x ∈ s.sessions, x.state = .opened → t.session? x.number = some { x with
          held := x.held - r.waiting.countP fun w => w.session == x.number }) ∧
      s.front.Took (pre ++ [.notice (.referralEnded number .timeout)]) t.front ∧
      t = { s with serial := t.serial, front := t.front, referrals := t.referrals,
                   heldCounts := t.heldCounts, sessions := t.sessions, awaiting := t.awaiting,
                   voucherQueue := t.voucherQueue, transfer := t.transfer,
                   tagCounter := t.tagCounter, totals := t.totals, returned := t.returned }

/-- REFERRAL ANSWER, ENTRY (R44, R45, R54, R55): to a MISS record with room in the table, the entry is
stored, the record is freed and no new one is made; each item in the order of the list is evaluated again
from step 4 with the table as it then stands and released, its final VERDICT is placed, of the kind that
the steps give (REFER_LOOP where the lookup misses or the rights refer), and the counts of held items fall
by the items ended; the REPLY with the number of items and the entry count comes last; without room, TABLE_FULL (its REPLY carries no count: log entry 13, the model's choice) and no
change; late, the entry is stored all the same; to a DECISION record, BAD_STATE. -/
def Obligations.EntryAnswerResumesTheItems : Prop :=
  (∀ (tag : Byte) (number : Nat) (raw : RawEntry) (e : Entry) (r : Referral) (s : State),
    s.resetAsserted = false → 1 ≤ number → number ≤ 255 → checkEntry raw = some e →
    s.referral? number = some r → r.kind = .miss →
    ((findEntry s.articles e.number e.span).isSome = true ∨ s.articles.length < 2048) →
    ∃ (t : State) (pre : List Frame), exec (.referralAnswerEntry tag number raw) s = .next t ∧
      t.articles = storeEntry e s.articles ∧
      t.referrals = s.referrals.filter (·.number != number) ∧
      s.front.Took (pre ++ replyFrames tag 10 .ok
        (be 1 r.waiting.length ++ be 2 t.articles.length)) t.front ∧
      Sends (replyFrames tag 10 .ok (be 1 r.waiting.length ++ be 2 t.articles.length)) []
        (r.waiting.foldl (fun u w => (State.resumeEntry r.article w u).releaseItem w)
          { s with articles := storeEntry e s.articles,
                   referrals := s.referrals.filter (·.number != number) }) t ∧
      HeldFall r.waiting s t ∧
      (SessionsOk s → LinkedOk s → FinalVerdicts r.waiting
        (EntryKind (storeEntry e s.articles) s.keys r.article) pre) ∧
      (t.keys = s.keys ∧ t.classValues = s.classValues ∧ t.params = s.params ∧
        t.lastReferral = s.lastReferral ∧ t.lastSession = s.lastSession ∧
        t.overflow = s.overflow ∧ t.stations = s.stations)) ∧
  (∀ (tag : Byte) (number : Nat) (raw : RawEntry) (e : Entry) (r : Referral) (s : State),
    s.resetAsserted = false → 1 ≤ number → number ≤ 255 → checkEntry raw = some e →
    s.referral? number = some r → r.kind = .miss →
    findEntry s.articles e.number e.span = none → 2048 ≤ s.articles.length →
    ∃ t, exec (.referralAnswerEntry tag number raw) s = .next t ∧
      Sends (replyFrames tag 10 .tableFull []) [] s t) ∧
  (∀ (tag : Byte) (number : Nat) (raw : RawEntry) (e : Entry) (s : State),
    s.resetAsserted = false → 1 ≤ number → number ≤ 255 → checkEntry raw = some e →
    s.referral? number = none →
    ((findEntry s.articles e.number e.span).isSome = true ∨ s.articles.length < 2048) →
    ∃ t, exec (.referralAnswerEntry tag number raw) s = .next t ∧
      Sends (replyFrames tag 10 .lateLoaded (be 2 (storeEntry e s.articles).length)) []
        { s with articles := storeEntry e s.articles } t) ∧
  (∀ (tag : Byte) (number : Nat) (raw : RawEntry) (e d : Entry) (r : Referral) (s : State),
    s.resetAsserted = false → 1 ≤ number → number ≤ 255 → checkEntry raw = some e →
    s.referral? number = some r → r.kind = .decision d →
    ∃ t, exec (.referralAnswerEntry tag number raw) s = .next t ∧
      Sends (replyFrames tag 10 .badState []) [] s t)

/-- REFERRAL ANSWER, DECIDE (R44, R46, R54, R56): a CREDIT or TAKE that agrees with the record frees it; each
item in the order of the list goes on at step 7 with the decided verdict, class and route class and row 0
and is released, its final VERDICT is placed (the decided one, or RETURN SESSION_FULL or CORNER_FULL), and
the counts of held items fall by the items ended; DECIDE RETURN gives each item a VERDICT RETURN
REFER_REFUSED and counts it; the REPLY comes last; a late one changes nothing. The class of a TAKE is not
checked (log entry 22, the model's choice). -/
def Obligations.DecideAnswerEndsTheItems : Prop :=
  (∀ (tag : Byte) (number verdict cls route : Nat) (d : Decided) (rc : RouteClass) (r : Referral)
    (s : State), s.resetAsserted = false → 1 ≤ number → number ≤ 255 →
    checkDecision verdict cls route = some (.accept d rc) → s.referral? number = some r →
    routeAgrees r.kind rc = true →
    ∃ (t : State) (pre : List Frame), exec (.referralAnswerDecide tag number verdict cls route) s = .next t ∧
      t.referrals = s.referrals.filter (·.number != number) ∧ t.articles = s.articles ∧
      s.front.Took (pre ++ replyFrames tag 10 .ok (be 1 r.waiting.length)) t.front ∧
      Sends (replyFrames tag 10 .ok (be 1 r.waiting.length)) []
        (r.waiting.foldl (fun u w => (State.resumeDecided r.kind d rc w u).releaseItem w)
          { s with referrals := s.referrals.filter (·.number != number) }) t ∧
      HeldFall r.waiting s t ∧
      (SessionsOk s → LinkedOk s → FinalVerdicts r.waiting (fun _ k => DecidedKind d k) pre)) ∧
  (∀ (kind : ReferralKind) (d : Decided) (rc : RouteClass) (w : Waiting) (s : State),
    let a := decidedAccept s.keys kind d rc w
    State.resumeDecided kind d rc w s = s.fromCap a ∧ a.item = w ∧ a.row = 0 ∧ a.route = rc ∧
    (∀ c, d = .credit c → a.credit = true ∧ a.cls = c) ∧ (d = .take → a.credit = false) ∧
    (∀ e, kind = .decision e → a.kind = e.kind ∧ a.volume = e.volume ∧ a.column = e.column) ∧
    (kind = .miss → (a.kind = .crate ↔ rc = .crate) ∧ a.volume = 3000)) ∧
  (∀ (tag : Byte) (number cls route : Nat) (r : Referral) (s : State),
    s.resetAsserted = false → CountersOk s → 1 ≤ number → number ≤ 255 → s.referral? number = some r →
    ∃ (t : State) (pre : List Frame), exec (.referralAnswerDecide tag number 2 cls route) s = .next t ∧
      t.referrals = s.referrals.filter (·.number != number) ∧
      t.returned = s.returned.set 9 (min (s.returned[9] + r.waiting.length) 99999999) ∧
      t = { s with serial := t.serial, front := t.front, referrals := t.referrals,
                   heldCounts := t.heldCounts, sessions := t.sessions, awaiting := t.awaiting,
                   voucherQueue := t.voucherQueue, transfer := t.transfer,
                   tagCounter := t.tagCounter, totals := t.totals, returned := t.returned } ∧
      FinalVerdicts r.waiting (fun _ k => k = .returned .referRefused) pre ∧
      HeldFall r.waiting s t ∧
      (SessionsOk s → LinkedOk s →
        pre.filterMap Frame.verdict? = r.waiting.map (waitingReturn s .referRefused)) ∧
      s.front.Took (pre ++ replyFrames tag 10 .ok (be 1 r.waiting.length)) t.front) ∧
  (∀ (tag : Byte) (number verdict cls route : Nat) (d : Decision) (s : State),
    s.resetAsserted = false → 1 ≤ number → number ≤ 255 →
    checkDecision verdict cls route = some d → s.referral? number = none →
    ∃ t, exec (.referralAnswerDecide tag number verdict cls route) s = .next t ∧
      Sends (replyFrames tag 10 .late []) [] s t)

/-! ## Sessions and vouchers -/

/-- READ REFERRALS and the three forms of READ SESSION (R59, R76): the answers, and nothing changes.
List counts, widths of fields that may be absent, ms fields and the unit of the remaining idle time are
the model's (log entries 14 to 16, 39), what a time shows is free (log entry 5). -/
def Obligations.SessionsAndReferralsAreRead : Prop :=
  (∀ (tag : Byte) (s : State), s.resetAsserted = false → ∃ t, exec (.readReferrals tag) s = .next t ∧
    Sends (replyFrames tag 11 .ok (be 1 s.referrals.length ++ be 1 s.waitingItems.length ++
      be 1 s.referrals.length ++ s.referrals.flatMap fun r => r.field (r.expiry - s.now))) [] s t) ∧
  (∀ (tag : Byte) (s : State), s.resetAsserted = false →
    ∃ t, exec (.readSessionSummary tag) s = .next t ∧
      Sends (replyFrames tag 12 .ok (be 1 s.sessions.length ++ s.sessions.flatMap fun x =>
        be 2 x.number ++ be 1 (stationNo x.station) ++ be 1 x.state.code)) [] s t) ∧
  (∀ (tag : Byte) (n : Nat) (x : Session) (s : State), s.resetAsserted = false → n ≠ 0 →
    s.session? n = some x → ∃ t, exec (.readSessionRecord tag n) s = .next t ∧
      Sends (replyFrames tag 12 .ok (x.record (x.idleExpiry.map fun e => e - s.now))) [] s t) ∧
  (∀ (tag : Byte) (n k : Nat) (x : Session) (s : State), s.resetAsserted = false → n ≠ 0 →
    1 ≤ k → k ≤ 15 → s.session? n = some x →
    ∃ t, exec (.readSessionLines tag n k) s = .next t ∧
      Sends (replyFrames tag 12 .ok (be 1 ((x.lines.drop (k - 1)).take 8).length ++
        ((x.lines.drop (k - 1)).take 8).flatMap fun l =>
          be 1 l.cls.val ++ be 3 l.count ++ be 3 l.value)) [] s t)

/-- SESSION CLOSE and IDLE EXPIRY (R65, R66, R68, R69, R72): an OPEN session is closed with its
disposition; with items held it waits in CLOSING; with nothing held and no credit it ends NIL; one with
credit, nothing held and disposition DONATE is counted as a donation; both are delivered: with a SESSION
RESULT and the record freed where the station is in OPERATING, else by waiting in AWAIT_PRINT; one with
disposition VOUCHER joins the voucher queue, and with the transfer IDLE it is ISSUING at once under a new
tag, which goes from 65,535 back to 1 (R80, R81, R83). -/
def Obligations.ClosingEndsTheSession : Prop :=
  ∀ (c : Instr) (st : Fin 8) (d : Disposition) (x : Session) (s : State),
    s.resetAsserted = false → SessionsOk s → x.state = .opened → x.station = st →
    (c = .sessionClose (stationNo st) [BitVec.ofNat 8 d.code] ∧
        ((s.stations[st]).state = .operating ∨ (s.stations[st]).state = .paused) ∧
        s.current? st = some x ∨
      (∃ e, c = .idleExpiry x.number ∧ s.session? x.number = some x ∧ x.idleExpiry = some e ∧
        e ≤ s.now ∧ d = s.params.idleDisposition)) →
    (x.held ≠ 0 → exec c s = .next (s.onSession x.number fun y =>
      { y with state := .closing, disposition := some d, idleExpiry := none })) ∧
    (x.held = 0 → x.credit = 0 → (s.stations[st]).state = .operating →
      ∃ t, exec c s = .next t ∧
        Sends [.sessionResult (stationNo st)
          { session := x.number, outcome := some .nothing, disposition := some d, amount := 0,
            voucherNumber := x.voucherNumber, accepted := x.accepted,
            lineCount := x.lines.length }] [] (s.freeSession x.number) t) ∧
    (x.held = 0 → x.credit ≠ 0 → d = .donate → (s.stations[st]).state = .operating →
      ∃ t, exec c s = .next t ∧
        Sends [.sessionResult (stationNo st)
          { session := x.number, outcome := some .donated, disposition := some .donate,
            amount := x.credit, voucherNumber := x.voucherNumber, accepted := x.accepted,
            lineCount := x.lines.length }] []
          ((s.onTotals (Totals.donate x.credit)).freeSession x.number) t) ∧
    (x.held = 0 → (x.credit = 0 ∨ d = .donate) → (s.stations[st]).state ≠ .operating →
      exec c s = .next
        { (if x.credit = 0 then s else s.onTotals (Totals.donate x.credit)).onSession x.number
            (fun y => { y with
              state := .awaitPrint, disposition := some d, idleExpiry := none,
              outcome := some (if x.credit = 0 then .nothing else .donated) }) with
          awaiting := s.awaiting ++ [x.number] }) ∧
    (x.held = 0 → x.credit ≠ 0 → d = .voucher → s.transfer = .idle → s.voucherQueue = [] →
      ∃ t l, exec c s = .next t ∧
        Sends [.voucherRequest (nextTag s) (stationNo st) x.number x.credit x.lines.length] []
          { s.onSession x.number (fun y =>
              { y with state := .issuing, issueTag := some (nextTag s),
                       disposition := some d, idleExpiry := none }) with
            voucherQueue := [x.number], tagCounter := nextTag s,
            transfer := .running .request x.number (nextTag s) none l } t) ∧
    (x.held = 0 → x.credit ≠ 0 → d = .voucher → s.transfer ≠ .idle →
      exec c s = .next
        { s.onSession x.number (fun y =>
            { y with state := .queued, disposition := some d, idleExpiry := none }) with
          voucherQueue := s.voucherQueue ++ [x.number] })

/-- DISCARD SESSION (R75): the tests in their order; in AWAIT_PRINT the record is freed without a SESSION
RESULT, the REPLY carries station, outcome, amount and voucher number, and every count stays. -/
def Obligations.DiscardFreesAnAwaitingSession : Prop :=
  (∀ (tag : Byte) (s : State), s.resetAsserted = false →
    ∃ t, exec (.discardSession tag 0) s = .next t ∧
      Sends (replyFrames tag 13 .badValue []) [] s t) ∧
  (∀ (tag : Byte) (n : Nat) (s : State), s.resetAsserted = false → n ≠ 0 → s.session? n = none →
    ∃ t, exec (.discardSession tag n) s = .next t ∧
      Sends (replyFrames tag 13 .notFound []) [] s t) ∧
  (∀ (tag : Byte) (n : Nat) (x : Session) (s : State), s.resetAsserted = false → n ≠ 0 →
    s.session? n = some x →
    (x.state ≠ .awaitPrint → ∃ t, exec (.discardSession tag n) s = .next t ∧
      Sends (replyFrames tag 13 .badState []) [] s t) ∧
    (x.state = .awaitPrint → ∃ t, exec (.discardSession tag n) s = .next t ∧
      Sends (replyFrames tag 13 .ok (be 1 (stationNo x.station) ++
        optBe 1 (x.outcome.map SessionOutcome.code) ++ be 3 x.credit ++ optBe 5 x.voucherNumber)) []
        { s with sessions := s.sessions.filter (·.number != n),
                 awaiting := s.awaiting.filter (· != n) } t))

/-- REQUEST ACCEPTED (R83, R84): with the transfer's tag the lines go out, four to a frame and the last
frame with fewer than four, and the transfer goes on to DATA or STATUS with its timer stopped; with
another tag it stops with cause TAG; outside REQUEST, or from another source, it is ignored (R93). -/
def Obligations.AcceptedRequestSendsTheLines : Prop :=
  (∀ (payload : List Byte) (n tag l : Nat) (e : Option Nat) (x : Session) (s : State),
    s.resetAsserted = false → s.transfer = .running .request n tag e l → s.session? n = some x →
    parseTag payload = some tag →
    ∃ (t : State) (fs : List Frame), exec (.requestAccepted 14 payload) s = .next t ∧
      Sends fs [] { s with transfer := t.transfer } t ∧
      (t.transfer = .running .data n tag none t.serial ∨
        t.transfer = .running .status n tag none t.serial) ∧
      fs.length = x.lines.length / 4 + 1 ∧
      ∀ k (h : k < fs.length),
        fs[k] = .voucherLines tag n (k + 1) ((x.lines.drop (4 * k)).take 4)) ∧
  (∀ (payload : List Byte) (n tag g l : Nat) (e : Option Nat) (x : Session) (s : State),
    s.resetAsserted = false → s.transfer = .running .request n tag e l → s.session? n = some x →
    parseTag payload = some g → g ≠ tag →
    ∃ t, exec (.requestAccepted 14 payload) s = .next t ∧
      Sends [.notice (.voucherStopped n (stationNo x.station) x.credit tag .request .tag)] []
        { s with transfer := .stopped .request .tag n tag } t) ∧
  (∀ (src : Nat) (payload : List Byte) (s : State),
    (src ≠ 14 ∨ ∀ n tag e l, s.transfer ≠ .running .request n tag e l) →
    exec (.requestAccepted src payload) s = .next s)

/-- A VOUCHER STATUS that passes every check (R71, R72, R81, R86): the session is issued and counted, and
delivered: its station in OPERATING is sent the SESSION RESULT and the record is freed, else it waits in
AWAIT_PRINT; with nothing else queued the transfer goes to IDLE, else it starts for the next head. -/
def Obligations.PassingStatusIssuesTheVoucher : Prop :=
  ∀ (payload : List Byte) (n tag l v : Nat) (e : Option Nat) (rest : List Nat) (x : Session)
    (s : State), s.resetAsserted = false → SessionsOk s →
    s.transfer = .running .status n tag e l → s.voucherQueue = n :: rest →
    s.session? n = some x → checkStatus tag payload = .ok v →
    let d := delivered { x with voucherNumber := some v, outcome := some .issued }
      (s.onTotals (Totals.issue x.credit))
    ∃ t, exec (.voucherStatus 14 payload) s = .next t ∧ NextHead rest d.1 [] d.2 t

/-- The checks of a VOUCHER STATUS (R85), in their order: the first that fails is the stop cause. -/
def Obligations.StatusIsCheckedInOrder : Prop :=
  (∀ (tag : Nat) (p : List Byte), p.length ≠ 16 → checkStatus tag p = .error .length) ∧
  (∀ (tag m g o v x : Nat) (p : List Byte), fields [2, 2, 1, 5, 6] p = some [m, g, o, v, x] →
    (m ≠ 0x5653 → checkStatus tag p = .error .marker) ∧
    (m = 0x5653 → g ≠ tag → checkStatus tag p = .error .tag) ∧
    (m = 0x5653 → g = tag → o ≠ 0 → checkStatus tag p = .error (.refusedByTill o)) ∧
    (m = 0x5653 → g = tag → o = 0 → 9999999999 < v → checkStatus tag p = .error .number) ∧
    (m = 0x5653 → g = tag → o = 0 → v ≤ 9999999999 → checkStatus tag p = .ok v))

/-- A transfer stops (R82, R85, R87, R92): at the expiry of its reply timer with cause TIMEOUT, at a
VOUCHER STATUS that fails a check with that cause, at ABORT with cause ABORTED, where in DATA the VOUCHER
LINES frames still held for room are given up; the VOUCHER STOPPED notice is placed, before the REPLY to
ABORT. -/
def Obligations.TransferStopsWithItsCause : Prop :=
  ∀ (ph : Phase) (n tag l : Nat) (e : Option Nat) (x : Session) (s : State),
    s.resetAsserted = false → s.transfer = .running ph n tag e l → s.session? n = some x →
    (∀ d, e = some d → d ≤ s.now → ∃ t, exec .replyTimerExpiry s = .next t ∧
      Sends [.notice (.voucherStopped n (stationNo x.station) x.credit tag ph .timeout)] []
        { s with transfer := .stopped ph .timeout n tag } t) ∧
    (∀ payload cause, ph = .status → checkStatus tag payload = .error cause →
      ∃ t, exec (.voucherStatus 14 payload) s = .next t ∧
        Sends [.notice (.voucherStopped n (stationNo x.station) x.credit tag ph cause)] []
          { s with transfer := .stopped ph cause n tag } t) ∧
    (∀ cmd : Byte, ph = .data → n ≠ 0 → ∃ t, exec (.voucherControlAbort cmd n) s = .next t ∧
      Sends (.notice (.voucherStopped n (stationNo x.station) x.credit tag ph .aborted) ::
        replyFrames cmd 14 .ok []) []
        { s with transfer := .stopped ph .aborted n tag,
                 front := { s.front with held := s.front.held.filter fun q =>
                   !(match q.frame with | .voucherLines _ _ _ _ => true | _ => false) } } t) ∧
    (∀ cmd : Byte, ph ≠ .data → n ≠ 0 → ∃ t, exec (.voucherControlAbort cmd n) s = .next t ∧
      Sends (.notice (.voucherStopped n (stationNo x.station) x.credit tag ph .aborted) ::
        replyFrames cmd 14 .ok []) [] { s with transfer := .stopped ph .aborted n tag } t)

/-- VOUCHER CONTROL on a stopped transfer of the named session (R88 to R91): RESUME of STATUS asks for the
status again, RESUME of REQUEST repeats the request and RESUME of DATA the lines, with the same tag; RESTART begins REQUEST
under a new tag, which the REPLY carries; CANCEL ends the session CANCELLED, counted and delivered, to its
station in OPERATING or by AWAIT_PRINT, and the transfer goes to IDLE or starts for the next head (R72,
R80, R81). -/
def Obligations.StoppedTransferIsControlled : Prop :=
  ∀ (cmd : Byte) (ph : Phase) (cause : StopCause) (n tag : Nat) (x : Session) (s : State),
    s.resetAsserted = false → SessionsOk s → s.transfer = .stopped ph cause n tag → n ≠ 0 →
    s.session? n = some x →
    (ph = .status → ∃ t l, exec (.voucherControlResume cmd n) s = .next t ∧
      Sends (.statusQuery tag n :: replyFrames cmd 14 .ok []) []
        { s with transfer := .running .status n tag none l } t) ∧
    (ph = .request → ∃ t l, exec (.voucherControlResume cmd n) s = .next t ∧
      Sends (.voucherRequest tag (stationNo x.station) n x.credit x.lines.length ::
        replyFrames cmd 14 .ok []) [] { s with transfer := .running .request n tag none l } t) ∧
    (ph = .data → ∃ t l, exec (.voucherControlResume cmd n) s = .next t ∧
      (t.transfer = .running .data n tag none l ∨ t.transfer = .running .status n tag none l) ∧
      Sends (lineFrames n tag x.lines ++ replyFrames cmd 14 .ok []) []
        { s with transfer := t.transfer } t) ∧
    (∃ t l, exec (.voucherControlRestart cmd n) s = .next t ∧
      Sends (.voucherRequest (nextTag s) (stationNo x.station) n x.credit x.lines.length ::
        replyFrames cmd 14 .ok (be 2 (nextTag s))) []
        { s.onSession n (fun y => { y with state := .issuing, issueTag := some (nextTag s) }) with
          tagCounter := nextTag s,
          transfer := .running .request n (nextTag s) none l } t) ∧
    (∀ rest, s.voucherQueue = n :: rest →
      let d := delivered { x with outcome := some .cancelled } (s.onTotals (Totals.cancel x.credit))
      ∃ t, exec (.voucherControlCancel cmd n) s = .next t ∧
        NextHead rest d.1 (replyFrames cmd 14 .ok []) d.2 t)

/-- READ VOUCHER and READ BUDGET (R94, R147): the answers, and nothing changes. List counts, widths of
fields that may be absent, ms fields, and the candidate while the feed fault is asserted are the model's
(log entries 14 to 16, 40). -/
def Obligations.VoucherUnitAndBudgetAreRead : Prop :=
  (∀ (tag : Byte) (s : State), s.resetAsserted = false → ∃ t, exec (.readVoucher tag) s = .next t ∧
    Sends (replyFrames tag 15 .ok (be 1 s.transfer.code ++ optBe 3 s.transfer.session? ++
      optBe 3 s.transfer.tag? ++ optBe 1 (s.transfer.stop?.map fun p => p.1.code) ++
      optBe 1 (s.transfer.stop?.map fun p => p.2.code) ++
      optBe 2 (s.transfer.stop?.bind fun p => p.2.tillOutcome) ++
      optMs (s.transfer.expiry?.map fun e => e - s.now) ++ be 2 s.tagCounter ++
      be 1 s.voucherQueue.length ++ s.voucherQueue.flatMap (be 2))) [] s t) ∧
  (∀ (tag : Byte) (s : State), s.resetAsserted = false → ∃ t, exec (.readBudget tag) s = .next t ∧
    Sends (replyFrames tag 21 .ok (be 1 s.params.budget ++ be 2 s.params.window ++
      markByte s.feedFault ++ be 1 (laneNo s.pointer) ++ be 1 s.strokeSum ++
      be 1 s.strokes.length ++
      (s.strokes.flatMap fun r => be 1 (laneNo r.lane) ++ be 1 r.weight ++
        msField (r.time + s.params.window - s.now)) ++
      be 1 s.waitingLanes.length ++
      (s.waitingLanes.flatMap fun i => be 1 (laneNo i) ++ optBe 1 (s.weight? i)) ++
      optBe 1 (s.candidate?.map laneNo))) [] s t)

/-! ## Lanes -/

/-- SET LANE (R97): in CLOSED, with a capacity at least the committed fill, the five fields are replaced
and the nearly-full mark is tested; the other fields of the lane are kept.  A lane in another state
refuses it, and a capacity below the committed fill is refused. -/
def Obligations.SetLaneReplacesTheConfiguration : Prop :=
  ∀ (tag : Byte) (i : Fin 12) (k r c f w : Nat) (kind : LaneKind) (route : RouteClass) (s : State),
    s.resetAsserted = false → LaneKind.ofCode k = some kind → RouteClass.ofCode r = some route →
    1 ≤ c → c ≤ 20000 → 1 ≤ f → f ≤ 16 → 50 ≤ w → w ≤ 99 →
    ((s.lanes[i]).state ≠ .closed → ∃ t, exec (.setLane tag (laneNo i) k r c f w) s = .next t ∧
      Sends (replyFrames tag 16 .badState []) [] s t) ∧
    ((s.lanes[i]).state = .closed → c < (s.lanes[i]).committed →
      ∃ t, exec (.setLane tag (laneNo i) k r c f w) s = .next t ∧
        Sends (replyFrames tag 16 .belowFill []) [] s t) ∧
    ((s.lanes[i]).state = .closed → (s.lanes[i]).committed ≤ c →
      let mark := decide (c * w ≤ ((s.lanes[i]).committed + (s.lanes[i]).reserved) * 100)
      ∃ t, exec (.setLane tag (laneNo i) k r c f w) s = .next t ∧
        Sends ((if !(s.lanes[i]).nearlyFull && mark then
            [.notice (.nearlyFull (laneNo i) (s.lanes[i]).committed (s.lanes[i]).reserved c)]
          else []) ++ replyFrames tag 16 .ok []) []
          (s.setLane i { s.lanes[i] with
            kind := kind, route := route, capacity := c, factor := f, warn := w,
            nearlyFull := mark }) t)

/-- LANE GO OPEN and LANE GO DRAIN (R103, R104): from CLOSED with a bin and a capacity the lane opens,
or rests where its class is OVER; from DRAINING it opens again and its pipeline goes on, with DROP
ORDER and DROP GO frames only and with every order left in its lane; from OPEN with an empty pipeline a
drain closes it at once, with orders it is DRAINING; from REST the rest return becomes DRAINING. The
REPLY to DRAIN carries the state. -/
def Obligations.LaneGoOpensAndDrains : Prop :=
  ∀ (tag : Byte) (i : Fin 12) (s : State), s.resetAsserted = false →
    laneOk s.lanes[i] s.pipes[i] →
    ((s.lanes[i]).state = .closed → 0 < (s.lanes[i]).capacity → (s.lanes[i]).binPresent = true →
      let st := if (s.lanes[i]).thermal = .over then LaneState.rest .opened else .opened
      ∃ t, exec (.laneGoOpen tag (laneNo i)) s = .next t ∧
        Sends (replyFrames tag 17 .ok []) [.laneMode (laneNo i) st]
          (s.setLane i { s.lanes[i] with state := st, changed := true }) t) ∧
    ((s.lanes[i]).state = .draining →
      ∃ t, exec (.laneGoOpen tag (laneNo i)) s = .next t ∧
        s.front.Took (replyFrames tag 17 .ok []) t.front ∧
        (∃ fs, s.back.Took (.laneMode (laneNo i) .opened :: fs) t.back ∧
          ∀ f ∈ fs, (∃ l h k v w, f = .dropOrder l h k v w) ∨ ∃ l h, f = .dropGo l h) ∧
        (LanesOk s → ∀ j : Fin 12, (t.pipes[j]).orders = (s.pipes[j]).orders) ∧ Advanced i t ∧
        t = { s.setLane i { s.lanes[i] with state := .opened, changed := true } with
              serial := t.serial, front := t.front, back := t.back, pipes := t.pipes,
              strokes := t.strokes, pointer := t.pointer }) ∧
    ((s.lanes[i]).state = .opened →
      let st := if (s.pipes[i]).isEmpty then LaneState.closed else .draining
      ∃ t, exec (.laneGoDrain tag (laneNo i)) s = .next t ∧
        Sends (replyFrames tag 17 .ok (be 1 st.code)) [.laneMode (laneNo i) st]
          (s.setLane i { s.lanes[i] with state := st, changed := true }) t) ∧
    (∀ b, (s.lanes[i]).state = .rest b → ∃ t, exec (.laneGoDrain tag (laneNo i)) s = .next t ∧
      Sends (replyFrames tag 17 .ok (be 1 3)) []
        (s.setLane i { s.lanes[i] with state := .rest .draining }) t)

/-- LANE GO CLEAR FAULT (R105): refused with NOT_IDLE while the dropping position holds an order; otherwise
the lane goes to CLOSED and both results become none, with everything else of the lane kept. -/
def Obligations.ClearFaultClosesTheLane : Prop :=
  ∀ (tag : Byte) (i : Fin 12) (s : State), s.resetAsserted = false →
    laneOk s.lanes[i] s.pipes[i] → (s.lanes[i]).state = .fault →
    ((s.pipes[i]).dropping.isSome = true →
      ∃ t, exec (.laneGoClearFault tag (laneNo i)) s = .next t ∧
        Sends (replyFrames tag 17 .notIdle []) [] s t) ∧
    ((s.pipes[i]).dropping = none →
      ∃ t, exec (.laneGoClearFault tag (laneNo i)) s = .next t ∧
        Sends (replyFrames tag 17 .ok []) [.laneMode (laneNo i) .closed]
          ((s.setPipe i { s.pipes[i] with last := none, beforeLast := none }).setLane i
            { s.lanes[i] with state := .closed, changed := true }) t)

/-- MASK LANE and OVERFLOW EMPTIED (R106, R115): the mask is stored in every state and keeps the lane out
of lane choice, and a lane number outside 1 to 12 is refused; the overflow fill and items are answered and cleared with the high mark, and the corner
totals stand. -/
def Obligations.MaskAndOverflowCommands : Prop :=
  (∀ (tag : Byte) (i : Fin 12) (m : Bool) (s : State), s.resetAsserted = false →
    ∃ t, exec (.maskLane tag (laneNo i) (if m then 1 else 0)) s = .next t ∧
      Sends (replyFrames tag 18 .ok []) [] (s.setLane i { s.lanes[i] with mask := m }) t ∧
      (m = true → ∀ route fill out, t.isCandidate route fill out i = false)) ∧
  (∀ (tag : Byte) (lane m : Nat) (s : State), s.resetAsserted = false → (lane = 0 ∨ 12 < lane) →
    ∃ t, exec (.maskLane tag lane m) s = .next t ∧ Sends (replyFrames tag 18 .badValue []) [] s t) ∧
  (∀ (tag : Byte) (s : State), s.resetAsserted = false →
    ∃ t, exec (.overflowEmptied tag) s = .next t ∧
      Sends (replyFrames tag 19 .ok (be 4 s.overflow.fill ++ be 4 s.overflow.items)) []
        { s with overflow := { fill := 0, items := 0, high := false } } t)

/-- Fill and lane choice (R98, R101): the fill of a container is the volume times the factor divided by
1,600, rounded up, that of a crate is 1.  The chosen lane is a candidate; its nearly-full mark is clear if
that of any candidate is; among the candidates with the same mark it has the greatest remaining room, and
the lowest number at a tie; no lane is chosen only where there is no candidate. -/
def Obligations.LaneChoiceTakesTheRoomiest : Prop :=
  (∀ (v : Nat) (l : Lane), itemFill .crate v l = 1 ∧
    v * l.factor ≤ 1600 * itemFill .container v l ∧
    1600 * itemFill .container v l < v * l.factor + 1600) ∧
  ∀ (s : State) (route : RouteClass) (fill : Lane → Nat) (out : Option (Fin 12)),
    (∀ i, s.isCandidate route fill out i = true ↔
      (s.lanes[i]).route = route ∧ (s.lanes[i]).state = .opened ∧ (s.lanes[i]).mask = false ∧
      out ≠ some i ∧ (s.pipes[i]).queue.length < 6 ∧
      (s.lanes[i]).committed + (s.lanes[i]).reserved + fill s.lanes[i] ≤ (s.lanes[i]).capacity) ∧
    (∀ i, s.chooseLane route fill out = some i →
      s.isCandidate route fill out i = true ∧
      (∀ j, s.isCandidate route fill out j = true → (s.lanes[j]).nearlyFull = false →
        (s.lanes[i]).nearlyFull = false) ∧
      (∀ j, s.isCandidate route fill out j = true →
        (s.lanes[j]).nearlyFull = (s.lanes[i]).nearlyFull →
        (s.lanes[j]).room < (s.lanes[i]).room ∨
          ((s.lanes[j]).room = (s.lanes[i]).room ∧ i ≤ j))) ∧
    (s.chooseLane route fill out = none ↔ ∀ i, s.isCandidate route fill out i = false)

/-- LANE REPORT (R107 to R111, R128, R141): a report that repeats what is held changes nothing; OVER
sends an OPEN lane without a waiting request to REST; another class of a lane whose request waits is
stored, and a consideration grants in turn by the new weights; where the same report takes the bin out,
the request is withdrawn and starts no drop (log entry 43, the model's choice of the order); a bin-out
records the fill at removal and sends an OPEN lane with nothing queued or staged to SWAP; a bin-in
clears the committed fill and the items and brings such a lane back from SWAP with a BIN SWAPPED
notice; a jam marks the dropping order once and records a FAIL. A class other than OVER brings a lane
in REST back to its rest return (R108, R131); OVER sends a lane in OPEN or DRAINING to REST, and a
waiting request is withdrawn with a consideration (R141, R144); a bin-out from OPEN, DRAINING or REST
sends the staged order to overflow and reroutes the queue (R109, R111, R112), also where the same
report carries OVER (R107); a bin-in in SWAP leads to the base state, or to REST by the class then held
(R110); in CLOSED and FAULT a report stores what it carries (R108 to R110); a jam that is the second
FAIL in a row leads to FAULT (R127, R128); a jam without an unmarked dropping order is ignored. -/
def Obligations.LaneReportActsOnDifferences : Prop :=
  ∀ (i : Fin 12) (s : State), s.resetAsserted = false →
    (exec (.laneReport (laneNo i) [BitVec.ofNat 8 (s.lanes[i]).thermal.code,
      BitVec.ofNat 8 (if (s.lanes[i]).binPresent then 0 else 1), 0#8]) s = .next s) ∧
    ((s.lanes[i]).state = .opened → (s.lanes[i]).thermal ≠ .over → (s.lanes[i]).binPresent = true →
      (s.pipes[i]).request = false →
      ∃ t, exec (.laneReport (laneNo i) [4#8, 0#8, 0#8]) s = .next t ∧
        Sends [] [.laneMode (laneNo i) (.rest .opened)]
          (s.setLane i { s.lanes[i] with
            thermal := .over, state := .rest .opened, changed := true }) t) ∧
    (∀ c, c ≠ .over → c ≠ (s.lanes[i]).thermal → (s.lanes[i]).state.runs = true →
      (s.lanes[i]).binPresent = true → (s.pipes[i]).request = true → s.feedFault = false →
      let u := s.setLane i { s.lanes[i] with thermal := c, changed := true }
      ∃ t new, exec (.laneReport (laneNo i) [BitVec.ofNat 8 c.code, 0#8, 0#8]) s = .next t ∧
        Granted new u t ∧
        t = { u with serial := t.serial, back := t.back, pipes := t.pipes, strokes := t.strokes,
                     pointer := t.pointer }) ∧
    (∀ c b, c ≠ .over → (s.lanes[i]).state = RunState.laneState b → (s.lanes[i]).binPresent = true →
      (s.pipes[i]).request = true →
      ∃ t, exec (.laneReport (laneNo i) [BitVec.ofNat 8 c.code, 1#8, 0#8]) s = .next t ∧
        (t.lanes[i]).state = .swap b false ∧ (t.lanes[i]).thermal = c ∧
        (t.lanes[i]).binPresent = false ∧ (t.pipes[i]).request = false ∧
        (t.pipes[i]).dropping = (s.pipes[i]).dropping ∧ (t.pipes[i]).staged = none ∧
        (t.pipes[i]).queue = []) ∧
    ((s.lanes[i]).state = .closed → (s.lanes[i]).thermal = .normal →
      (s.lanes[i]).binPresent = true →
      exec (.laneReport (laneNo i) [1#8, 1#8, 0#8]) s =
        .next (s.setLane i { s.lanes[i] with
          binPresent := false, fillAtRemoval := (s.lanes[i]).committed })) ∧
    ((s.lanes[i]).state = .closed → (s.lanes[i]).thermal = .normal →
      (s.lanes[i]).binPresent = false → (s.lanes[i]).reserved = 0 →
      0 < (s.lanes[i]).capacity * (s.lanes[i]).warn →
      exec (.laneReport (laneNo i) [1#8, 0#8, 0#8]) s =
        .next (s.setLane i { s.lanes[i] with
          binPresent := true, committed := 0, nearlyFull := false, itemsSince := 0 })) ∧
    ((s.lanes[i]).state = .opened → (s.lanes[i]).thermal = .normal →
      (s.lanes[i]).binPresent = true → (s.pipes[i]).queue = [] → (s.pipes[i]).staged = none →
      (s.pipes[i]).request = false →
      ∃ t, exec (.laneReport (laneNo i) [1#8, 1#8, 0#8]) s = .next t ∧
        Sends [] [.laneMode (laneNo i) (.swap .opened false)]
          (s.setLane i { s.lanes[i] with
            binPresent := false, fillAtRemoval := (s.lanes[i]).committed,
            state := .swap .opened false, changed := true }) t) ∧
    ((s.lanes[i]).state = .swap .opened false → (s.lanes[i]).thermal = .normal →
      (s.lanes[i]).binPresent = false → (s.pipes[i]).queue = [] → (s.pipes[i]).staged = none →
      (s.lanes[i]).reserved * 100 < (s.lanes[i]).capacity * (s.lanes[i]).warn →
      ∃ t, exec (.laneReport (laneNo i) [1#8, 0#8, 0#8]) s = .next t ∧
        Sends [.notice (.binSwapped (laneNo i) (s.lanes[i]).fillAtRemoval (s.lanes[i]).itemsSince)]
          [.laneMode (laneNo i) .opened]
          (s.setLane i { s.lanes[i] with
            binPresent := true, committed := 0, nearlyFull := false, itemsSince := 0,
            state := .opened, changed := true }) t) ∧
    (∀ d, (s.lanes[i]).thermal = .normal → (s.lanes[i]).binPresent = true →
      (s.pipes[i]).dropping = some d →
      (d.jam = true → exec (.laneReport (laneNo i) [1#8, 0#8, 1#8]) s = .next s) ∧
      (d.jam = false → (s.pipes[i]).last ≠ some .fail →
        exec (.laneReport (laneNo i) [1#8, 0#8, 1#8]) s =
          .next (s.setPipe i { s.pipes[i] with
            dropping := some { d with jam := true }, last := some .fail,
            beforeLast := (s.pipes[i]).last }))) ∧
    (LanesOk s →
      let l := s.lanes[i]
      let q := s.pipes[i]
      let full := decide (l.capacity * l.warn ≤ l.reserved * 100)
      let nearly := if l.nearlyFull = false ∧ full = true then
        [Frame.notice (.nearlyFull (laneNo i) 0 l.reserved l.capacity)] else []
      let report := fun (c : Thermal) (out jam : Bool) =>
        exec (.laneReport (laneNo i) (laneReportBytes c out jam)) s
      (∀ c b, l.state = .rest b → c ≠ .over → c ≠ l.thermal → l.binPresent = true →
        ∃ t, report c false false = .next t ∧ t.front = s.front ∧
          Returned i b { l with thermal := c } s t) ∧
      (∀ b : RunState, l.state = b.laneState → l.thermal ≠ .over → l.binPresent = true →
        let rested := (s.setPipe i { q with request := false }).setLane i
          { l with thermal := .over, state := .rest b, changed := true }
        (∃ u t, report .over false false = .next t ∧
          Sends [] [.laneMode (laneNo i) (.rest b)] rested u ∧
          (q.request = false → t = u) ∧ (q.request = true → Considered u t)) ∧
        ∃ u v t, report .over true false = .next t ∧
          Sends [] [.laneMode (laneNo i) (.rest b)] rested u ∧
          (q.request = false → v = u) ∧ (q.request = true → Considered u v) ∧
          WentOut i (.swap b true) { v.lanes[i] with
            binPresent := false, fillAtRemoval := l.committed } v.pipes[i] [] v t) ∧
      (∀ st, l.binPresent = true →
        ((∃ b : RunState, l.state = b.laneState ∧ st = .swap b false) ∨
          ∃ b, l.state = .rest b ∧ st = .swap b true) →
        ∃ t, report l.thermal true false = .next t ∧
          WentOut i st { l with binPresent := false, fillAtRemoval := l.committed } q [] s t) ∧
      (∀ c b rested, l.state = .swap b rested → l.binPresent = false →
        let back : Lane := { l with
          thermal := c, binPresent := true, committed := 0, nearlyFull := full, itemsSince := 0 }
        let notes := nearly ++ [.notice (.binSwapped (laneNo i) l.fillAtRemoval l.itemsSince)]
        ∃ t, report c false false = .next t ∧ s.front.Took notes t.front ∧
          (c = .over → Sends notes [.laneMode (laneNo i) (.rest b)]
            (s.setLane i { back with state := .rest b, changed := true }) t) ∧
          (c ≠ .over → Returned i b back s t)) ∧
      (∀ c, l.state = .closed ∨ l.state = .fault →
        let stored : Lane := { l with
          thermal := c, changed := l.changed || decide (c ≠ l.thermal) }
        (l.binPresent = true → report c true false = .next (s.setLane i { stored with
          binPresent := false, fillAtRemoval := l.committed })) ∧
        (l.binPresent = false → ∃ t, report c false false = .next t ∧
          Sends nearly [] (s.setLane i { stored with
            binPresent := true, committed := 0, nearlyFull := full, itemsSince := 0 }) t)) ∧
      (∀ c, c ≠ l.thermal →
        (l.state = .closed ∨ l.state = .fault ∨ (∃ b rested, l.state = .swap b rested) ∨
          l.state.runs = true ∧ c ≠ .over ∧ q.request = false) →
        report c (!l.binPresent) false =
          .next (s.setLane i { l with thermal := c, changed := true })) ∧
      (∀ d, q.dropping = some d → d.jam = false → q.last = some .fail → l.state ≠ .fault →
        ∃ t, report l.thermal (!l.binPresent) true = .next t ∧
          WentOut i .fault l { q with
            dropping := some { d with jam := true }, last := some .fail,
            beforeLast := some .fail } [] s t) ∧
      (∀ d, q.dropping = some d → d.jam = false → q.last ≠ some .fail →
        report l.thermal (!l.binPresent) true = .next (s.setPipe i { q with
          dropping := some { d with jam := true }, last := some .fail, beforeLast := q.last })) ∧
      ((∀ d, q.dropping = some d → d.jam = true) →
        report l.thermal (!l.binPresent) true = .next s))

/-! ## Drops and strokes -/

/-- A DROP DONE PASS for the handle in the dropping position (R99, R125, R127, R129): the order's fill
moves from reserved to committed, the items since bin-in rise by one, the result is recorded unless the
order is jammed, the order leaves the dropping position and no other order leaves its lane, and nothing
goes to overflow. The last order of a drain closes the lane with a LANE MODE frame (R104, R130); else
the pipeline goes on in OPEN and DRAINING, and nothing follows in REST, SWAP and FAULT. Another handle
is ignored. -/
def Obligations.PassedDropIsCommitted : Prop :=
  (∀ (i : Fin 12) (payload : List Byte) (d : Dropping) (s : State), s.resetAsserted = false →
    parseDropDone payload = some (d.order.handle, .pass) → (s.pipes[i]).dropping = some d →
    ∃ t, exec (.dropDone (laneNo i) payload) s = .next t ∧
      (t.lanes[i]).committed = (s.lanes[i]).committed + d.order.fill ∧
      (t.lanes[i]).reserved = (s.lanes[i]).reserved - d.order.fill ∧
      (t.lanes[i]).itemsSince = min ((s.lanes[i]).itemsSince + 1) 99999999 ∧
      (t.pipes[i]).last = (if d.jam then (s.pipes[i]).last else some .pass) ∧
      (t.pipes[i]).beforeLast = (if d.jam then (s.pipes[i]).beforeLast else (s.pipes[i]).last) ∧
      t = { s with serial := t.serial, front := t.front, back := t.back, lanes := t.lanes,
                   pipes := t.pipes, strokes := t.strokes, pointer := t.pointer } ∧
      (LanesOk s →
        (t.pipes[i]).orders = (s.pipes[i]).staged.toList ++ (s.pipes[i]).queue ∧
        OtherOrdersKept i s t ∧ DropEnded i s t) ∧
      ∀ j, j ≠ i → t.lanes[j] = s.lanes[j]) ∧
  (∀ (i : Fin 12) (payload : List Byte) (h : Nat) (r : DropResult) (s : State),
    parseDropDone payload = some (h, r) →
    (∀ d, (s.pipes[i]).dropping = some d → d.order.handle ≠ h) →
    exec (.dropDone (laneNo i) payload) s = .next s)

/-- A failed drop, by DROP DONE FAIL or by the expiry of the drop timer (R113, R125 to R127): the order
goes to overflow, its fill is released, FAIL is recorded unless the order is jammed, and no other order
leaves its lane. The second FAIL in a row leaves the lane in FAULT with its queue and its staged
position empty (R111): the ended order, the staged order and the queued orders that find no lane are
counted in overflow, and each other queued order joins the tail of the lane that it is rerouted to
(R112), with the LANE MODE frame last. A first FAIL that ends the last order of a drain closes the lane
(R104, R130). -/
def Obligations.FailedDropGoesToOverflow : Prop :=
  ∀ (i : Fin 12) (c : Instr) (d : Dropping) (s : State), s.resetAsserted = false →
    (s.pipes[i]).dropping = some d →
    ((∃ payload, c = .dropDone (laneNo i) payload ∧
        parseDropDone payload = some (d.order.handle, .fail)) ∨
      (∃ e, c = .dropExpiry (laneNo i) ∧ d.expiry = some e ∧ e ≤ s.now)) →
    ((d.jam = true ∨ (s.pipes[i]).last ≠ some .fail) → ∃ t, exec c s = .next t ∧
      t.overflow.fill = min (s.overflow.fill + d.order.fill) 99999999 ∧
      t.overflow.items = min (s.overflow.items + 1) 99999999 ∧
      t.totals = { s.totals with
        overflowItems := min (s.totals.overflowItems + 1) 99999999,
        overflowFill := min (s.totals.overflowFill + d.order.fill) 99999999 } ∧
      (t.lanes[i]).committed = (s.lanes[i]).committed ∧
      (t.lanes[i]).reserved = (s.lanes[i]).reserved - d.order.fill ∧
      (t.pipes[i]).last = (if d.jam then (s.pipes[i]).last else some .fail) ∧
      (t.pipes[i]).beforeLast = (if d.jam then (s.pipes[i]).beforeLast else (s.pipes[i]).last) ∧
      (∀ j, j ≠ i → t.lanes[j] = s.lanes[j]) ∧
      (LanesOk s →
        (t.pipes[i]).orders = (s.pipes[i]).staged.toList ++ (s.pipes[i]).queue ∧
        OtherOrdersKept i s t ∧ DropEnded i s t ∧
        t.overflow = s.overflow.after [d.order] s.params.overflowCapacity) ∧
      t = { s with serial := t.serial, front := t.front, back := t.back, lanes := t.lanes,
                   pipes := t.pipes, strokes := t.strokes, pointer := t.pointer,
                   overflow := t.overflow, totals := t.totals }) ∧
    (d.jam = false → (s.pipes[i]).last = some .fail → laneOk s.lanes[i] s.pipes[i] →
      ∃ t, exec c s = .next t ∧ (t.lanes[i]).state = .fault ∧ (t.pipes[i]).queue = [] ∧
        (t.pipes[i]).staged = none ∧ (t.pipes[i]).dropping = none ∧
        (t.lanes[i]).committed = (s.lanes[i]).committed ∧
        (LanesOk s → (t.lanes[i]).reserved = 0 ∧ ∃ dest, Rerouted i dest s t ∧
          let gone := d.order :: ((s.pipes[i]).staged.toList ++ sentTo i dest s none)
          let fill := (gone.map Order.fill).sum
          t.overflow.items = min (s.overflow.items + gone.length) 99999999 ∧
          t.overflow.fill = min (s.overflow.fill + fill) 99999999 ∧
          t.totals = { s.totals with
            overflowItems := min (s.totals.overflowItems + gone.length) 99999999,
            overflowFill := min (s.totals.overflowFill + fill) 99999999 }) ∧
        (LanesOk s → (s.lanes[i]).state ≠ .fault →
          WentOut i .fault s.lanes[i] { s.pipes[i] with
            dropping := none, last := some .fail, beforeLast := some .fail } [d.order] s t) ∧
        t = { s with serial := t.serial, front := t.front, back := t.back, lanes := t.lanes,
                     pipes := t.pipes, strokes := t.strokes, pointer := t.pointer,
                     overflow := t.overflow, totals := t.totals })

/-- STROKE RECORD EXPIRY (R140, R142, R143): the head leaves the list W ms after its grant, the sum falls by its
weight, and a consideration grants lane after lane, with records at the tail, until the candidate does
not fit; with the feed fault asserted nothing is granted. -/
def Obligations.ExpiredStrokeMakesRoom : Prop :=
  ∀ (r : Stroke) (rest : List Stroke) (s : State), s.resetAsserted = false → s.strokes = r :: rest →
    r.time + s.params.window ≤ s.now →
    ∃ t, exec .strokeRecordExpiry s = .next t ∧
      (s.feedFault = true → t = { s with strokes := rest }) ∧
      (s.feedFault = false → GrantsDone t ∧ (∃ new, t.strokes = rest ++ new ∧
          ∀ g ∈ new, g.time = s.now ∧ (s.pipes[g.lane]).request = true) ∧
        (s.strokeSum ≤ s.params.budget → t.strokeSum ≤ t.params.budget) ∧
        (∃ new, Granted new { s with strokes := rest } t) ∧
        t = { s with serial := t.serial, back := t.back, pipes := t.pipes, strokes := t.strokes,
                     pointer := t.pointer })

/-! ## Stations -/

/-- ANNOUNCE (R159 to R161): in LISTENING the first, second and third frame of a run of one kind, with
gaps of at most 750 ms, count and attach the station; a late frame starts a new run; from an attached
station the recorded kind moves the silence expiry; OFF and LOST ignore it. -/
def Obligations.AnnounceAttachesAndKeepsAlive : Prop :=
  ∀ (st : Fin 8) (k : StationKind) (s : State), s.resetAsserted = false →
    let c := Instr.announce (stationNo st) [BitVec.ofNat 8 k.code]
    let x := s.stations[st]
    (x.state = .listening →
      ((x.attachCount = 0 ∨ x.attachKind ≠ some k ∨ ∃ t, x.lastAnnounce = some t ∧ t + 750 < s.now) →
        exec c s = .next (s.setStation st
          { x with attachCount := 1, attachKind := some k, lastAnnounce := some s.now })) ∧
      (∀ t, x.attachCount = 1 → x.attachKind = some k → x.lastAnnounce = some t →
        s.now ≤ t + 750 → exec c s = .next (s.setStation st
          { x with attachCount := 2, lastAnnounce := some s.now })) ∧
      (∀ t, x.attachCount = 2 → x.attachKind = some k → x.lastAnnounce = some t →
        s.now ≤ t + 750 → ∃ u, exec c s = .next u ∧
          Sends [.notice (.stationChange (stationNo st) .listening .standby .attach (some k) none)]
            [] (s.setStation st { x with
              state := .standby, kind := some k, attachCount := 0, attachKind := none,
              lastAnnounce := some s.now, silenceExpiry := some (s.now + 1500),
              changed := true }) u)) ∧
    (x.state.attached = true → x.kind = some k →
      exec c s = .next (s.setStation st
        { x with lastAnnounce := some s.now, silenceExpiry := some (s.now + 1500) })) ∧
    ((x.state = .off ∨ x.state = .lost) → exec c s = .next s)

/-- A station is lost (R58, R67, R69, R159, R161 to R163, R166), by the expiry of its silence timer or
by an ANNOUNCE of another kind: it is LOST with the cause, its items leave the Referral List and the
others stay in their order, its session is closed with the idle disposition, or completed where it was
in CLOSING, and goes to AWAIT_PRINT or to the voucher queue, the last frame is the STATION CHANGE
notice, no other station changes and no table does. That the last announce time stays also at a loss by
another kind is the model's choice (log entry 41). -/
def Obligations.SilentOrChangedStationIsLost : Prop :=
  ∀ (c : Instr) (st : Fin 8) (loss : LossCause) (cause : ChangeCause)
    (announced : Option StationKind) (s : State), s.resetAsserted = false →
    (s.stations[st]).state.attached = true →
    ((∃ e, c = .silenceExpiry (stationNo st) ∧ (s.stations[st]).silenceExpiry = some e ∧ e ≤ s.now ∧
        loss = .silent ∧ cause = .silent ∧ announced = none) ∨
      (∃ k : StationKind, c = .announce (stationNo st) [BitVec.ofNat 8 k.code] ∧
        (s.stations[st]).kind ≠ some k ∧ loss = .kind ∧ cause = .kind ∧ announced = some k)) →
    ∃ (t : State) (pre : List Frame), exec c s = .next t ∧
      t.stations = s.stations.set st.val { s.stations[st] with
        state := .lost, lossCause := some loss, silenceExpiry := none, changed := true } st.isLt ∧
      (∀ w ∈ t.waitingItems, w.station ≠ st) ∧
      (∀ r ∈ t.referrals, r.waiting ≠ [] ∧ ∃ r' ∈ s.referrals, r'.number = r.number) ∧
      t.referrals = (s.referrals.map (Referral.without fun w => w.station == st)).filter
        (fun r => !r.waiting.isEmpty) ∧
      (SessionsOk s → LinkedOk s → LeftService st pre s t) ∧
      s.front.Took (pre ++ [.notice (.stationChange (stationNo st) (s.stations[st]).state .lost
        cause (s.stations[st]).kind announced)]) t.front ∧
      t = { s with serial := t.serial, front := t.front, referrals := t.referrals,
                   heldCounts := t.heldCounts, sessions := t.sessions, awaiting := t.awaiting,
                   voucherQueue := t.voucherQueue, transfer := t.transfer,
                   tagCounter := t.tagCounter, totals := t.totals, stations := t.stations }

/-- STATION GO (R73, R164, R165): LISTEN, OPERATE (with no result waiting, and with one, which is
delivered after the STATION MODE frame; with several they go in the order of their entry into
AWAIT_PRINT, and the results of other stations wait on), PAUSE and OFF with the frames they place; an
attached station that is sent to OFF leaves service first: its items leave the Referral List and its
session is closed or completed (R58, R67, R163). -/
def Obligations.StationGoMovesTheStation : Prop :=
  ∀ (tag : Byte) (st : Fin 8) (s : State), s.resetAsserted = false →
    let x := s.stations[st]
    let mode := fun m => Frame.stationMode (stationNo st) m x.kind
    ((x.state = .off ∨ x.state = .lost) →
      ∃ t, exec (.stationGoListen tag (stationNo st)) s = .next t ∧
        Sends (replyFrames tag 24 .ok []) [] (s.setStation st { x with
          state := .listening, changed := true, attachCount := 0, attachKind := none,
          lossCause := none }) t) ∧
    ((x.state = .standby ∨ x.state = .paused) → s.awaiting = [] →
      ∃ t, exec (.stationGoOperate tag (stationNo st)) s = .next t ∧
        Sends (mode .operating :: replyFrames tag 24 .ok []) []
          (s.setStation st { x with state := .operating, changed := true }) t) ∧
    ((x.state = .standby ∨ x.state = .paused) → ∀ y, s.awaiting = [y.number] →
      s.session? y.number = some y → y.station = st →
      ∃ t, exec (.stationGoOperate tag (stationNo st)) s = .next t ∧
        Sends ([mode .operating, .sessionResult (stationNo st)
            { session := y.number, outcome := y.outcome, disposition := y.disposition,
              amount := y.credit, voucherNumber := y.voucherNumber, accepted := y.accepted,
              lineCount := y.lines.length }] ++ replyFrames tag 24 .ok []) []
          ((s.setStation st { x with state := .operating, changed := true }).freeSession
            y.number) t) ∧
    ((x.state = .standby ∨ x.state = .paused) →
      let waiting := (s.awaiting.filterMap s.session?).filter fun y => y.station == st
      let gone := waiting.map Session.number
      ∃ t, exec (.stationGoOperate tag (stationNo st)) s = .next t ∧
        Sends (mode .operating :: (waiting.map fun y => .sessionResult (stationNo st)
            { session := y.number, outcome := y.outcome, disposition := y.disposition,
              amount := y.credit, voucherNumber := y.voucherNumber, accepted := y.accepted,
              lineCount := y.lines.length }) ++ replyFrames tag 24 .ok []) []
          { s.setStation st { x with state := .operating, changed := true } with
            sessions := s.sessions.filter fun y => !gone.contains y.number,
            awaiting := s.awaiting.filter fun n => !gone.contains n } t) ∧
    (x.state = .off → ∃ t, exec (.stationGoOff tag (stationNo st)) s = .next t ∧
      Sends (replyFrames tag 24 .ok []) [] s t) ∧
    (x.state = .operating → ∃ t, exec (.stationGoPause tag (stationNo st)) s = .next t ∧
      Sends (mode .paused :: replyFrames tag 24 .ok []) []
        (s.setStation st { x with state := .paused, changed := true }) t) ∧
    (x.state = .listening → ∃ t, exec (.stationGoOff tag (stationNo st)) s = .next t ∧
      Sends (mode .off :: replyFrames tag 24 .ok []) [] (s.setStation st { x with
        state := .off, changed := true, attachCount := 0, attachKind := none }) t) ∧
    (x.state = .lost → ∃ t, exec (.stationGoOff tag (stationNo st)) s = .next t ∧
      Sends (mode .off :: replyFrames tag 24 .ok []) [] (s.setStation st { x with
        state := .off, changed := true, lossCause := none }) t) ∧
    (x.state.attached = true → s.referrals = [] → s.current? st = none →
      ∃ t, exec (.stationGoOff tag (stationNo st)) s = .next t ∧
        Sends (mode .off :: replyFrames tag 24 .ok []) [] (s.setStation st { x with
          state := .off, changed := true, silenceExpiry := none }) t) ∧
    (x.state.attached = true → SessionsOk s → LinkedOk s →
      ∃ (t : State) (pre : List Frame), exec (.stationGoOff tag (stationNo st)) s = .next t ∧
        LeftService st pre s t ∧
        s.front.Took (pre ++ mode .off :: replyFrames tag 24 .ok []) t.front ∧
        t = { s.setStation st { x with
                state := .off, changed := true, silenceExpiry := none } with
              serial := t.serial, front := t.front, referrals := t.referrals,
              heldCounts := t.heldCounts, sessions := t.sessions, awaiting := t.awaiting,
              voucherQueue := t.voucherQueue, transfer := t.transfer,
              tagCounter := t.tagCounter, totals := t.totals })

/-- READ STATUS (R116, R167): the answer of a station, of a lane and of the overflow lane, with the
changed flag as it stood; only that flag changes, which is cleared. An attach count whose run has a gap
of more than 750 ms behind it shows as 0 (R160). Widths of fields that may be absent, ms fields, and that
no attach kind stands beside a count shown as 0 are the model's (log entries 15, 16, 27, 36). -/
def Obligations.StatusReadClearsTheFlag : Prop :=
  (∀ (tag : Byte) (st : Fin 8) (s : State), s.resetAsserted = false →
    let x := s.stations[st]
    let gap := ∃ a, x.lastAnnounce = some a ∧ a + 750 < s.now
    ∀ count kind, (gap → count = 0) → (¬gap → count = x.attachCount) →
    (count = 0 → kind = none) → (count ≠ 0 → kind = x.attachKind) →
    ∃ t, exec (.readStatusStation tag (stationNo st)) s = .next t ∧
      Sends (replyFrames tag 20 .ok
        (be 1 x.state.code ++ optBe 1 (x.kind.map StationKind.code) ++
          optBe 1 (x.lossCause.map LossCause.code) ++ be 1 count ++
          optBe 1 (kind.map StationKind.code) ++ optMs (x.lastAnnounce.map fun a => s.now - a) ++
          optMs (x.silenceExpiry.map fun e => e - s.now) ++ be 1 s.heldCounts[st] ++
          optBe 1 (x.kind.map fun k => match k with | .single => 1 | .bulk => 4 | .crate => 1) ++
          optBe 3 ((s.current? st).map Session.number) ++
          optBe 1 ((s.current? st).map fun y => y.state.code) ++
          be 1 (s.sessions.countP fun y => y.station == st && y.state == .awaitPrint) ++
          markByte x.changed)) []
        (s.setStation st { x with changed := false }) t) ∧
  (∀ (tag : Byte) (i : Fin 12) (s : State), s.resetAsserted = false →
    let l := s.lanes[i]
    let p := s.pipes[i]
    ∃ t, exec (.readStatusLane tag (laneNo i)) s = .next t ∧
      Sends (replyFrames tag 20 .ok
        (be 1 l.kind.code ++ be 1 l.route.code ++ be 2 l.capacity ++ be 1 l.factor ++
          be 1 l.warn ++ markByte l.mask ++ be 1 l.state.code ++
          optBe 1 (l.state.restReturn.map RunState.code) ++ optBe 1 l.state.swapReturnCode ++
          be 2 l.committed ++ be 2 l.reserved ++ be 2 (l.capacity - l.committed - l.reserved) ++
          markByte l.nearlyFull ++ be 1 l.thermal.code ++ markByte (!l.binPresent) ++
          be 2 l.fillAtRemoval ++ be 4 l.itemsSince ++ be 1 p.queue.length ++
          optBe 3 (p.staged.map Order.handle) ++ optBe 3 (p.dropping.map fun d => d.order.handle) ++
          be 1 (resultCode p.last) ++ be 1 (resultCode p.beforeLast) ++ markByte l.changed)) []
        (s.setLane i { l with changed := false }) t) ∧
  (∀ (tag : Byte) (s : State), s.resetAsserted = false →
    ∃ t, exec (.readStatusLane tag 0) s = .next t ∧
      Sends (replyFrames tag 20 .ok (be 4 s.overflow.fill ++ be 4 s.overflow.items ++
        markByte s.overflow.high ++ be 2 s.params.overflowCapacity)) [] s t)

/-! ## Counters, parameters, unknown commands, CORNER RESET -/

/-- READ COUNTERS and READ AND CLEAR (R155): both answer every counter of the group; the first changes
nothing, the second clears that group and no other; another group is refused. Where an answer is cut
into a series is the model's choice (log entry 17). -/
def Obligations.CountersAreReadAndClearedByGroup : Prop :=
  (∀ (tag : Byte) (r : Fin 5) (s : State), s.resetAsserted = false →
    (∃ t, exec (.readCounters tag r.val) s = .next t ∧
      Sends (replyFrames tag 22 .ok (s.rows[r]).bytes) [] s t) ∧
    ∃ t, exec (.readAndClear tag r.val) s = .next t ∧
      Sends (replyFrames tag 23 .ok (s.rows[r]).bytes) []
        { s with rows := s.rows.set r.val Row.zero r.isLt } t) ∧
  (∀ (tag : Byte) (s : State), s.resetAsserted = false →
    (∃ t, exec (.readCounters tag 5) s = .next t ∧
      Sends (replyFrames tag 22 .ok s.totals.bytes) [] s t) ∧
    (∃ t, exec (.readAndClear tag 5) s = .next t ∧
      Sends (replyFrames tag 23 .ok s.totals.bytes) [] { s with totals := Totals.zero } t) ∧
    (∃ t, exec (.readCounters tag 6) s = .next t ∧
      Sends (replyFrames tag 22 .ok (s.returned.toList.flatMap (be 4))) [] s t) ∧
    ∃ t, exec (.readAndClear tag 6) s = .next t ∧
      Sends (replyFrames tag 23 .ok (s.returned.toList.flatMap (be 4))) []
        { s with returned := Vector.replicate 19 0 } t) ∧
  (∀ (tag : Byte) (g : Nat) (s : State), s.resetAsserted = false → 6 < g →
    (∃ t, exec (.readCounters tag g) s = .next t ∧
      Sends (replyFrames tag 22 .badValue []) [] s t) ∧
    ∃ t, exec (.readAndClear tag g) s = .next t ∧ Sends (replyFrames tag 23 .badValue []) [] s t)

/-- SET PARAMETER and READ PARAMETERS (R146, R178): a value is clamped to its range, stored and answered;
the stroke budget and the stroke window are refused with NOT_IDLE while a record stands in the list; the
read gives all nine. -/
def Obligations.ParametersAreClampedAndRead : Prop :=
  (∀ (tag : Byte) (v : Nat) (s : State), s.resetAsserted = false →
    (∃ t, exec (.setParameter tag 1 v) s = .next t ∧
      Sends (replyFrames tag 25 .ok (be 3 (max 100 (min 999999 v)))) []
        { s with params := { s.params with sessionCap := max 100 (min 999999 v) } } t) ∧
    (∃ t w, exec (.setParameter tag 2 v) s = .next t ∧
      (v = 0 → w = 0) ∧ (1 ≤ v → v ≤ 29 → w = 30) ∧ (30 ≤ v → v ≤ 600 → w = v) ∧
      (600 < v → w = 600) ∧
      Sends (replyFrames tag 25 .ok (be 2 w)) [] { s with params := { s.params with idleTime := w } }
        t) ∧
    (∀ d, Disposition.ofCode v = some d → ∃ t, exec (.setParameter tag 3 v) s = .next t ∧
      Sends (replyFrames tag 25 .ok (be 1 v)) []
        { s with params := { s.params with idleDisposition := d } } t) ∧
    (∃ t, exec (.setParameter tag 5 v) s = .next t ∧
      Sends (replyFrames tag 25 .ok (be 2 (max 500 (min 10000 v)))) []
        { s with params := { s.params with dropTimeout := max 500 (min 10000 v) } } t) ∧
    (∃ t, exec (.setParameter tag 6 v) s = .next t ∧
      Sends (replyFrames tag 25 .ok (be 2 (max 500 (min 10000 v)))) []
        { s with params := { s.params with voucherTimeout := max 500 (min 10000 v) } } t) ∧
    (∃ t, exec (.setParameter tag 4 v) s = .next t ∧
      Sends (replyFrames tag 25 .ok (be 2 (max 1000 (min 30000 v)))) []
        { s with params := { s.params with referralTimeout := max 1000 (min 30000 v) } } t) ∧
    (∃ t, exec (.setParameter tag 9 v) s = .next t ∧
      Sends (replyFrames tag 25 .ok (be 2 (max 10 (min 20000 v)))) []
        { s with params := { s.params with overflowCapacity := max 10 (min 20000 v) } } t) ∧
    (s.strokes = [] → ∃ t, exec (.setParameterStroke tag .budget v) s = .next t ∧
      Sends (replyFrames tag 25 .ok (be 1 (max 1 (min 12 v)))) []
        { s with params := { s.params with budget := max 1 (min 12 v) } } t) ∧
    (s.strokes = [] → ∃ t, exec (.setParameterStroke tag .window v) s = .next t ∧
      Sends (replyFrames tag 25 .ok (be 2 (max 1000 (min 10000 v)))) []
        { s with params := { s.params with window := max 1000 (min 10000 v) } } t) ∧
    (s.strokes ≠ [] → ∀ p, ∃ t, exec (.setParameterStroke tag p v) s = .next t ∧
      Sends (replyFrames tag 25 .notIdle []) [] s t)) ∧
  (∀ (tag : Byte) (s : State), s.resetAsserted = false →
    ∃ t, exec (.readParameters tag) s = .next t ∧
      Sends (replyFrames tag 26 .ok (be 3 s.params.sessionCap ++ be 2 s.params.idleTime ++
        be 1 s.params.idleDisposition.code ++ be 2 s.params.referralTimeout ++
        be 2 s.params.dropTimeout ++ be 2 s.params.voucherTimeout ++ be 1 s.params.budget ++
        be 2 s.params.window ++ be 2 s.params.overflowCapacity)) [] s t)

/-- A COMMAND that names no command, or whose arguments do not fit, is answered BAD_VALUE and changes
nothing (R174); the three table commands carry the entry count then too (log entry 13, the model's
choice). -/
def Obligations.UnknownCommandIsRefused : Prop :=
  ∀ (tag : Byte) (code : Nat) (s : State), s.resetAsserted = false →
    ∃ t results, exec (.commandUnknown tag code) s = .next t ∧
      Sends (replyFrames tag code .badValue results) [] s t ∧
      results = (if code = 1 ∨ code = 2 ∨ code = 4 then be 2 s.articles.length else [])

/-- Management commands whose number, choice of state or argument does not fit are refused with the code
that their rule names, and nothing changes (R7, R18, R54, R76, R88, R92, R97, R103, R164, R177, R178). That these REPLY frames carry no results is the model's reading (log entry 13). -/
def Obligations.RefusedCommandChangesNothing : Prop :=
  ∀ (tag : Byte) (c : Instr) (code : Nat) (result : ReplyCode) (s : State),
    s.resetAsserted = false →
    ((∃ n sp, c = .readArticleKey tag n sp ∧ (Span.ofCode sp = none ∨ 999999999999 < n) ∧ code = 3 ∧
        result = .badValue) ∨
      (∃ n, c = .readArticleLookup tag n ∧ 999999999999 < n ∧ code = 3 ∧ result = .badValue) ∨
      (∃ slot, c = .clearKey tag slot ∧ (slot = 0 ∨ 4 < slot) ∧ code = 6 ∧ result = .badValue) ∨
      (∃ n raw, c = .referralAnswerEntry tag n raw ∧
        (n = 0 ∨ 255 < n ∨ checkEntry raw = none) ∧ code = 10 ∧ result = .badValue) ∨
      (∃ n v k r, c = .referralAnswerDecide tag n v k r ∧
        (n = 0 ∨ 255 < n ∨ checkDecision v k r = none) ∧ code = 10 ∧ result = .badValue) ∨
      (∃ n v k r d rc f e, c = .referralAnswerDecide tag n v k r ∧ 1 ≤ n ∧ n ≤ 255 ∧
        checkDecision v k r = some (.accept d rc) ∧ s.referral? n = some f ∧
        f.kind = .decision e ∧ ¬(e.kind = .crate ↔ rc = .crate) ∧ code = 10 ∧
        result = .badValue) ∨
      (∃ n, c = .readSessionRecord tag n ∧ code = 12 ∧
        (n = 0 ∧ result = .badValue ∨ n ≠ 0 ∧ s.session? n = none ∧ result = .notFound)) ∨
      (∃ n k, c = .readSessionLines tag n k ∧ code = 12 ∧
        ((n = 0 ∨ k = 0 ∨ 15 < k) ∧ result = .badValue ∨
          (n ≠ 0 ∧ 1 ≤ k ∧ k ≤ 15) ∧ s.session? n = none ∧ result = .notFound)) ∨
      (∃ n, (c = .voucherControlResume tag n ∨ c = .voucherControlRestart tag n ∨
          c = .voucherControlCancel tag n) ∧ code = 14 ∧
        (n = 0 ∧ result = .badValue ∨
          n ≠ 0 ∧ (∀ ph k m g, s.transfer ≠ .stopped ph k m g) ∧ result = .badState ∨
          n ≠ 0 ∧ (∃ ph k m g, s.transfer = .stopped ph k m g ∧ m ≠ n) ∧ result = .notFound)) ∨
      (∃ n, c = .voucherControlAbort tag n ∧ code = 14 ∧
        (n = 0 ∧ result = .badValue ∨
          n ≠ 0 ∧ (∀ ph g e l, s.transfer ≠ .running ph n g e l) ∧ result = .notRunning)) ∨
      (∃ lane k r p f w, c = .setLane tag lane k r p f w ∧ code = 16 ∧ result = .badValue ∧
        (lane = 0 ∨ 12 < lane ∨ LaneKind.ofCode k = none ∨ RouteClass.ofCode r = none ∨ p = 0 ∨
          20000 < p ∨ f = 0 ∨ 16 < f ∨ w < 50 ∨ 99 < w)) ∨
      (∃ lane, (c = .laneGoOpen tag lane ∨ c = .laneGoDrain tag lane ∨
          c = .laneGoClearFault tag lane) ∧ (lane = 0 ∨ 12 < lane) ∧ code = 17 ∧
        result = .badValue) ∨
      (∃ i : Fin 12, code = 17 ∧ result = .badState ∧
        let st := (s.lanes[i]).state
        (c = .laneGoOpen tag (laneNo i) ∧
            (st ≠ .closed ∧ st ≠ .draining ∨
              st = .closed ∧ ((s.lanes[i]).capacity = 0 ∨ (s.lanes[i]).binPresent = false)) ∨
          c = .laneGoDrain tag (laneNo i) ∧ st ≠ .opened ∧ (∀ b, st ≠ .rest b) ∨
          c = .laneGoClearFault tag (laneNo i) ∧ st ≠ .fault)) ∨
      (∃ n, c = .readStatusStation tag n ∧ (n = 0 ∨ 8 < n) ∧ code = 20 ∧ result = .badValue) ∨
      (∃ n, c = .readStatusLane tag n ∧ 12 < n ∧ code = 20 ∧ result = .badValue) ∨
      (∃ n, (c = .stationGoListen tag n ∨ c = .stationGoOperate tag n ∨ c = .stationGoPause tag n ∨
          c = .stationGoOff tag n) ∧ (n = 0 ∨ 8 < n) ∧ code = 24 ∧ result = .badValue) ∨
      (∃ st : Fin 8, code = 24 ∧ result = .badState ∧
        let x := (s.stations[st]).state
        (c = .stationGoListen tag (stationNo st) ∧ x ≠ .off ∧ x ≠ .lost ∨
          c = .stationGoOperate tag (stationNo st) ∧ x ≠ .standby ∧ x ≠ .paused ∨
          c = .stationGoPause tag (stationNo st) ∧ x ≠ .operating)) ∨
      (∃ n v, c = .setParameter tag n v ∧ (n = 0 ∨ 9 < n ∨ n = 3 ∧ Disposition.ofCode v = none) ∧
        code = 25 ∧ result = .badValue)) →
    ∃ t, exec c s = .next t ∧ Sends (replyFrames tag code result []) [] s t

/-- Frames of stations, till bridge and lane drivers that do not fit their owner's rule are ignored:
nothing changes and nothing is sent (R23, R57, R66, R83, R93, R107, R133, R159). The payloads are
spelled out: an ITEM REPORT of 12 or 14 bytes within the ranges of R23, with an article number above
999,999,999,999 and a mass of all ones read as absent; the single byte, tag, DROP DONE and LANE REPORT
with their lengths and values. -/
def Obligations.UnfitFrameIsIgnored : Prop :=
  (∀ (c : Instr) (src : Nat) (payload : List Byte) (s : State),
    (c = .announce src payload ∧
        (stationIx src = none ∨ (oneByte payload).bind StationKind.ofCode = none ∨
          ∃ st, stationIx src = some st ∧
            ((s.stations[st]).state = .off ∨ (s.stations[st]).state = .lost)) ∨
      c = .itemReport src payload ∧ (stationIx src = none ∨ parseReport payload = none) ∨
      c = .itemWithdraw src payload ∧ (stationIx src = none ∨ oneByte payload = none) ∨
      c = .sessionClose src payload ∧
        (stationIx src = none ∨ (oneByte payload).bind Disposition.ofCode = none ∨
          ∃ st, stationIx src = some st ∧
            ((s.stations[st]).state ≠ .operating ∧ (s.stations[st]).state ≠ .paused ∨
              ∀ x, s.current? st = some x → x.state ≠ .opened)) ∨
      c = .requestAccepted src payload ∧ (src ≠ 14 ∨ parseTag payload = none) ∨
      c = .voucherStatus src payload ∧
        (src ≠ 14 ∨ ∀ n g e l, s.transfer ≠ .running .status n g e l) ∨
      c = .dropDone src payload ∧ (laneIx src = none ∨ parseDropDone payload = none) ∨
      c = .laneReport src payload ∧ (laneIx src = none ∨ parseLaneReport payload = none)) →
    exec c s = .next s) ∧
  (∀ (seq number mass height sig : Nat) (bottles : Option BottleFields), seq < 256 →
    number < 2 ^ 48 → mass < 65536 → height < 65536 → sig < 256 →
    (∀ b ∈ bottles, b.present < 256 ∧ b.foreign < 256) →
    let bytes := be 1 seq ++ be 6 number ++ be 2 mass ++ be 2 height ++ be 1 sig ++
      (match bottles with | some b => be 1 b.present ++ be 1 b.foreign | none => [])
    let bad := (4000 < mass ∧ mass ≠ 0xFFFF) ∨ 600 < height ∨ 4 < sig ∨
      ∃ b ∈ bottles, 30 < b.present ∨ 30 < b.foreign
    (bad → parseReport bytes = none) ∧
    (¬bad → parseReport bytes = some
      { seq, number := if number ≤ 999999999999 then some number else none,
        mass := if mass = 0xFFFF then none else some mass, height,
        signature := if sig = 4 then none else Material.ofCode sig, bottles })) ∧
  (∀ p : List Byte,
    (p.length ≠ 12 → p.length ≠ 14 → parseReport p = none) ∧
    oneByte p = (match p with | [b] => some b.toNat | _ => none) ∧
    (parseTag p = none ↔ p.length < 2) ∧
    (parseDropDone p = none ↔ ¬∃ a b r : Byte, p = [a, b, r] ∧ ¬(a = 0 ∧ b = 0) ∧ r.toNat ≤ 1) ∧
    (parseLaneReport p = none ↔
      ¬∃ c b j : Byte, p = [c, b, j] ∧ c.toNat ≤ 4 ∧ b.toNat ≤ 1 ∧ j.toNat ≤ 1)) ∧
  (∀ h : Nat, 1 ≤ h → h ≤ 65535 → parseDropDone (be 2 h ++ be 1 0) = some (h, .pass) ∧
    parseDropDone (be 2 h ++ be 1 1) = some (h, .fail) ∧ parseTag (be 2 h) = some h) ∧
  ∀ (c : Thermal) (out jam : Bool),
    parseLaneReport (laneReportBytes c out jam) = some ⟨c, !out, jam⟩

/-- CORNER RESET (R47, R60, R77, R95, R118, R136, R148, R169, R173, R179): the Referral List, the
Session Table, the voucher queue, the pipelines and the stroke list are empty, every lane is CLOSED
with no reserved fill and its mark tested, the stations that served stand by, the tables, the
parameters, the last numbers and the handle are kept, the discarded credit and the RESET returns are
counted, and every order has gone to overflow. The front link gets the RETURN RESET of each waiting
item in the order of the records, with its session and that session's running credit, then the notices
that the fills call for, then the REPLY; the back link gets a LANE MODE CLOSED for each lane that was
not closed; and the frames that the Voucher Unit and the pipelines held for room are given up. The
order of its lane passes and that no close completes are the model's choices (log entries 19, 30). -/
def Obligations.CornerResetEmptiesTheCorner : Prop :=
  ∀ (tag : Byte) (s : State), s.resetAsserted = false → LanesOk s →
    CountersOk s →
    ∃ (t : State) (pre notices : List Frame), exec (.cornerReset tag) s = .next t ∧
      (∀ i : Fin 12, t.pipes[i] = Pipeline.reset ∧ t.lanes[i] = { s.lanes[i] with
        state := .closed, reserved := 0,
        nearlyFull := decide
          ((s.lanes[i]).capacity * (s.lanes[i]).warn ≤ (s.lanes[i]).committed * 100),
        changed := (s.lanes[i]).changed || decide ((s.lanes[i]).state ≠ .closed) }) ∧
      (∀ st : Fin 8, t.stations[st] = if (s.stations[st]).state = .operating ∨
          (s.stations[st]).state = .paused
        then { s.stations[st] with state := .standby, changed := true } else s.stations[st]) ∧
      (let gone := allLanes.flatMap fun i => (s.pipes[i]).orders
       t.overflow = s.overflow.after gone s.params.overflowCapacity ∧
       t.totals = { s.totals.overflowed gone with
        resetDiscarded := min (s.totals.resetDiscarded + (s.sessions.map fun x =>
          if x.state = .awaitPrint then 0 else x.credit).sum) 9999999999 }) ∧
      t.returned = s.returned.set 18 (min (s.returned[18] + s.waitingItems.length) 99999999) ∧
      t = { s with serial := t.serial, front := t.front, back := t.back, referrals := [],
                   heldCounts := Vector.replicate 8 0, sessions := [], awaiting := [],
                   voucherQueue := [], transfer := .idle, lanes := t.lanes,
                   overflow := t.overflow, pipes := t.pipes, strokes := [], totals := t.totals,
                   returned := t.returned, stations := t.stations } ∧
      t.front = { s.front with queue := t.front.queue, held := t.front.held } ∧
      t.back = { s.back with queue := t.back.queue, held := t.back.held } ∧
      t.front.all.map Queued.frame = pre ++ notices ++ replyFrames tag 27 .ok [] ∧
      FillNotices s.overflow t.overflow notices ∧
      (SessionsOk s → LinkedOk s →
        pre = (s.front.queue ++ s.front.held.filter fun q => !q.frame.ofVoucherUnit).map
            Queued.frame ++
          s.waitingItems.map fun w => .verdict (waitingReturn s .reset w).1
            (waitingReturn s .reset w).2) ∧
      t.back.all.map Queued.frame =
        (s.back.queue ++ s.back.held.filter fun q => !q.frame.ofPipeline).map Queued.frame ++
          (allLanes.filter fun i => (s.lanes[i]).state != .closed).map fun i =>
            .laneMode (laneNo i) .closed

/-! ## Laws that every step keeps -/

/-- Every step keeps the law of the Article Table, no two entries of one key and at most 2048 (R3),
each clearing counter within its maximum (R154) and each parameter in its range (R178); and every entry
that the part holds, in the table or as a copy, within the ranges of R1 and R4. -/
def Obligations.StepKeepsTableCountersAndParameters : Prop :=
  (∀ s t : State, ArticlesOk s → CountersOk s → ParametersOk s → step s = .next t →
    ArticlesOk t ∧ CountersOk t ∧ ParametersOk t) ∧
  ∀ s t : State, EntriesOk s → step s = .next t → EntriesOk t

/-- Every step keeps the sum of the stroke record list at most B (R139, R140, R146), each outgoing queue
within its capacity (R173) and each lane queue within 6 orders (R119). -/
def Obligations.StepKeepsTheBudgetAndTheQueues : Prop :=
  ∀ s t : State, StrokesOk s → PortsOk s → QueuesOk s → step s = .next t →
    StrokesOk t ∧ PortsOk t ∧ QueuesOk t

/-- Every step keeps the presence of the fields of the station records (R158). -/
def Obligations.StepKeepsTheStations : Prop :=
  ∀ s t : State, StationsOk s → step s = .next t → StationsOk t

/-- Every step keeps the law of the Session Table (R42, R61): at most 16 records, no number twice, the
running credit of each equal to the sum of its lines and at most its cap.  Class 0 is worth 0 (R20). -/
def Obligations.StepKeepsTheSessions : Prop :=
  ∀ s t : State, SessionsOk s → s.classValues[0] = 0 → step s = .next t →
    SessionsOk t ∧ t.classValues[0] = 0

/-- Every step keeps the law of the Referral List by itself (R28, R48): at most 4 records and 8 waiting items,
numbers and MISS articles each once, no record without an item, one item in a DECISION record, each
sequence of a station once.  With the law of the Session Table it keeps the links between the blocks: each
waiting item belongs to a session in OPEN or CLOSING of its station, the counts of held items are those of
the waiting items (R25, R61), a station has at most one such session (R61), CLOSING waits for an item
(R69), the voucher queue holds each session in QUEUED and ISSUING once and no other, with the session of
the transfer at its head (R78, R79), and the order of AWAIT_PRINT each session in that state once (R73). -/
def Obligations.StepKeepsTheReferrals : Prop :=
  (∀ s t : State, ReferralsOk s → step s = .next t → ReferralsOk t) ∧
  ∀ s t : State, SessionsOk s → ReferralsOk s → LinkedOk s → step s = .next t → LinkedOk t

/-- Every step keeps the transfer on the head of the voucher queue (R78, R79). -/
def Obligations.StepKeepsTheVoucherHead : Prop :=
  ∀ s t : State, VoucherOk s → step s = .next t → VoucherOk t

/-- Every step keeps the law of fills and positions (R99, R111, R123, R144): committed plus reserved
fill never exceeds a lane's capacity, and the reserved fill is the sum of the fills of the lane's
orders; and the law of states, bins and classes (R103, R108 to R110): in OPEN and DRAINING the bin is
present and the class is not OVER, in REST it is OVER, in SWAP the bin is out; and that an item handle
stands in at most one lane position of all lanes together (R26, R120). -/
def Obligations.StepKeepsTheFills : Prop :=
  (∀ s t : State, LanesOk s → step s = .next t → LanesOk t) ∧
  (∀ s t : State, BinsOk s → step s = .next t → BinsOk t) ∧
  ∀ s t : State, LanesOk s → QueuesOk s → HandlesOk s → step s = .next t → HandlesOk t

end
end

