-- ==== Sys2Proof/Laws/State.lean ====
section
/-! SUPPORT. One lemma per field and update of State, true by rfl, so that no later proof unfolds a record
update. -/

namespace Sys2Proof.Machine

variable (s : State)

/-! ## setLane -/

@[simp] theorem State.setLane_pending (i : Fin 12) (l : Lane) : (s.setLane i l).pending = s.pending := rfl
@[simp] theorem State.setLane_now (i : Fin 12) (l : Lane) : (s.setLane i l).now = s.now := rfl
@[simp] theorem State.setLane_serial (i : Fin 12) (l : Lane) : (s.setLane i l).serial = s.serial := rfl
@[simp] theorem State.setLane_draws (i : Fin 12) (l : Lane) : (s.setLane i l).draws = s.draws := rfl
@[simp] theorem State.setLane_resetAsserted (i : Fin 12) (l : Lane) : (s.setLane i l).resetAsserted = s.resetAsserted := rfl
@[simp] theorem State.setLane_feedLine (i : Fin 12) (l : Lane) : (s.setLane i l).feedLine = s.feedLine := rfl
@[simp] theorem State.setLane_front (i : Fin 12) (l : Lane) : (s.setLane i l).front = s.front := rfl
@[simp] theorem State.setLane_back (i : Fin 12) (l : Lane) : (s.setLane i l).back = s.back := rfl
@[simp] theorem State.setLane_params (i : Fin 12) (l : Lane) : (s.setLane i l).params = s.params := rfl
@[simp] theorem State.setLane_articles (i : Fin 12) (l : Lane) : (s.setLane i l).articles = s.articles := rfl
@[simp] theorem State.setLane_keys (i : Fin 12) (l : Lane) : (s.setLane i l).keys = s.keys := rfl
@[simp] theorem State.setLane_classValues (i : Fin 12) (l : Lane) : (s.setLane i l).classValues = s.classValues := rfl
@[simp] theorem State.setLane_heldCounts (i : Fin 12) (l : Lane) : (s.setLane i l).heldCounts = s.heldCounts := rfl
@[simp] theorem State.setLane_lastHandle (i : Fin 12) (l : Lane) : (s.setLane i l).lastHandle = s.lastHandle := rfl
@[simp] theorem State.setLane_referrals (i : Fin 12) (l : Lane) : (s.setLane i l).referrals = s.referrals := rfl
@[simp] theorem State.setLane_lastReferral (i : Fin 12) (l : Lane) : (s.setLane i l).lastReferral = s.lastReferral := rfl
@[simp] theorem State.setLane_sessions (i : Fin 12) (l : Lane) : (s.setLane i l).sessions = s.sessions := rfl
@[simp] theorem State.setLane_lastSession (i : Fin 12) (l : Lane) : (s.setLane i l).lastSession = s.lastSession := rfl
@[simp] theorem State.setLane_awaiting (i : Fin 12) (l : Lane) : (s.setLane i l).awaiting = s.awaiting := rfl
@[simp] theorem State.setLane_voucherQueue (i : Fin 12) (l : Lane) : (s.setLane i l).voucherQueue = s.voucherQueue := rfl
@[simp] theorem State.setLane_transfer (i : Fin 12) (l : Lane) : (s.setLane i l).transfer = s.transfer := rfl
@[simp] theorem State.setLane_tagCounter (i : Fin 12) (l : Lane) : (s.setLane i l).tagCounter = s.tagCounter := rfl
@[simp] theorem State.setLane_lanes (i : Fin 12) (l : Lane) :
    (s.setLane i l).lanes = s.lanes.set i.val l i.isLt := rfl
@[simp] theorem State.setLane_overflow (i : Fin 12) (l : Lane) : (s.setLane i l).overflow = s.overflow := rfl
@[simp] theorem State.setLane_pipes (i : Fin 12) (l : Lane) : (s.setLane i l).pipes = s.pipes := rfl
@[simp] theorem State.setLane_strokes (i : Fin 12) (l : Lane) : (s.setLane i l).strokes = s.strokes := rfl
@[simp] theorem State.setLane_pointer (i : Fin 12) (l : Lane) : (s.setLane i l).pointer = s.pointer := rfl
@[simp] theorem State.setLane_feedFault (i : Fin 12) (l : Lane) : (s.setLane i l).feedFault = s.feedFault := rfl
@[simp] theorem State.setLane_rows (i : Fin 12) (l : Lane) : (s.setLane i l).rows = s.rows := rfl
@[simp] theorem State.setLane_totals (i : Fin 12) (l : Lane) : (s.setLane i l).totals = s.totals := rfl
@[simp] theorem State.setLane_returned (i : Fin 12) (l : Lane) : (s.setLane i l).returned = s.returned := rfl
@[simp] theorem State.setLane_stations (i : Fin 12) (l : Lane) : (s.setLane i l).stations = s.stations := rfl

/-! ## setPipe -/

@[simp] theorem State.setPipe_pending (i : Fin 12) (p : Pipeline) : (s.setPipe i p).pending = s.pending := rfl
@[simp] theorem State.setPipe_now (i : Fin 12) (p : Pipeline) : (s.setPipe i p).now = s.now := rfl
@[simp] theorem State.setPipe_serial (i : Fin 12) (p : Pipeline) : (s.setPipe i p).serial = s.serial := rfl
@[simp] theorem State.setPipe_draws (i : Fin 12) (p : Pipeline) : (s.setPipe i p).draws = s.draws := rfl
@[simp] theorem State.setPipe_resetAsserted (i : Fin 12) (p : Pipeline) : (s.setPipe i p).resetAsserted = s.resetAsserted := rfl
@[simp] theorem State.setPipe_feedLine (i : Fin 12) (p : Pipeline) : (s.setPipe i p).feedLine = s.feedLine := rfl
@[simp] theorem State.setPipe_front (i : Fin 12) (p : Pipeline) : (s.setPipe i p).front = s.front := rfl
@[simp] theorem State.setPipe_back (i : Fin 12) (p : Pipeline) : (s.setPipe i p).back = s.back := rfl
@[simp] theorem State.setPipe_params (i : Fin 12) (p : Pipeline) : (s.setPipe i p).params = s.params := rfl
@[simp] theorem State.setPipe_articles (i : Fin 12) (p : Pipeline) : (s.setPipe i p).articles = s.articles := rfl
@[simp] theorem State.setPipe_keys (i : Fin 12) (p : Pipeline) : (s.setPipe i p).keys = s.keys := rfl
@[simp] theorem State.setPipe_classValues (i : Fin 12) (p : Pipeline) : (s.setPipe i p).classValues = s.classValues := rfl
@[simp] theorem State.setPipe_heldCounts (i : Fin 12) (p : Pipeline) : (s.setPipe i p).heldCounts = s.heldCounts := rfl
@[simp] theorem State.setPipe_lastHandle (i : Fin 12) (p : Pipeline) : (s.setPipe i p).lastHandle = s.lastHandle := rfl
@[simp] theorem State.setPipe_referrals (i : Fin 12) (p : Pipeline) : (s.setPipe i p).referrals = s.referrals := rfl
@[simp] theorem State.setPipe_lastReferral (i : Fin 12) (p : Pipeline) : (s.setPipe i p).lastReferral = s.lastReferral := rfl
@[simp] theorem State.setPipe_sessions (i : Fin 12) (p : Pipeline) : (s.setPipe i p).sessions = s.sessions := rfl
@[simp] theorem State.setPipe_lastSession (i : Fin 12) (p : Pipeline) : (s.setPipe i p).lastSession = s.lastSession := rfl
@[simp] theorem State.setPipe_awaiting (i : Fin 12) (p : Pipeline) : (s.setPipe i p).awaiting = s.awaiting := rfl
@[simp] theorem State.setPipe_voucherQueue (i : Fin 12) (p : Pipeline) : (s.setPipe i p).voucherQueue = s.voucherQueue := rfl
@[simp] theorem State.setPipe_transfer (i : Fin 12) (p : Pipeline) : (s.setPipe i p).transfer = s.transfer := rfl
@[simp] theorem State.setPipe_tagCounter (i : Fin 12) (p : Pipeline) : (s.setPipe i p).tagCounter = s.tagCounter := rfl
@[simp] theorem State.setPipe_lanes (i : Fin 12) (p : Pipeline) : (s.setPipe i p).lanes = s.lanes := rfl
@[simp] theorem State.setPipe_overflow (i : Fin 12) (p : Pipeline) : (s.setPipe i p).overflow = s.overflow := rfl
@[simp] theorem State.setPipe_pipes (i : Fin 12) (p : Pipeline) :
    (s.setPipe i p).pipes = s.pipes.set i.val p i.isLt := rfl
@[simp] theorem State.setPipe_strokes (i : Fin 12) (p : Pipeline) : (s.setPipe i p).strokes = s.strokes := rfl
@[simp] theorem State.setPipe_pointer (i : Fin 12) (p : Pipeline) : (s.setPipe i p).pointer = s.pointer := rfl
@[simp] theorem State.setPipe_feedFault (i : Fin 12) (p : Pipeline) : (s.setPipe i p).feedFault = s.feedFault := rfl
@[simp] theorem State.setPipe_rows (i : Fin 12) (p : Pipeline) : (s.setPipe i p).rows = s.rows := rfl
@[simp] theorem State.setPipe_totals (i : Fin 12) (p : Pipeline) : (s.setPipe i p).totals = s.totals := rfl
@[simp] theorem State.setPipe_returned (i : Fin 12) (p : Pipeline) : (s.setPipe i p).returned = s.returned := rfl
@[simp] theorem State.setPipe_stations (i : Fin 12) (p : Pipeline) : (s.setPipe i p).stations = s.stations := rfl

/-! ## setStation -/

@[simp] theorem State.setStation_pending (i : Fin 8) (x : Station) : (s.setStation i x).pending = s.pending := rfl
@[simp] theorem State.setStation_now (i : Fin 8) (x : Station) : (s.setStation i x).now = s.now := rfl
@[simp] theorem State.setStation_serial (i : Fin 8) (x : Station) : (s.setStation i x).serial = s.serial := rfl
@[simp] theorem State.setStation_draws (i : Fin 8) (x : Station) : (s.setStation i x).draws = s.draws := rfl
@[simp] theorem State.setStation_resetAsserted (i : Fin 8) (x : Station) : (s.setStation i x).resetAsserted = s.resetAsserted := rfl
@[simp] theorem State.setStation_feedLine (i : Fin 8) (x : Station) : (s.setStation i x).feedLine = s.feedLine := rfl
@[simp] theorem State.setStation_front (i : Fin 8) (x : Station) : (s.setStation i x).front = s.front := rfl
@[simp] theorem State.setStation_back (i : Fin 8) (x : Station) : (s.setStation i x).back = s.back := rfl
@[simp] theorem State.setStation_params (i : Fin 8) (x : Station) : (s.setStation i x).params = s.params := rfl
@[simp] theorem State.setStation_articles (i : Fin 8) (x : Station) : (s.setStation i x).articles = s.articles := rfl
@[simp] theorem State.setStation_keys (i : Fin 8) (x : Station) : (s.setStation i x).keys = s.keys := rfl
@[simp] theorem State.setStation_classValues (i : Fin 8) (x : Station) : (s.setStation i x).classValues = s.classValues := rfl
@[simp] theorem State.setStation_heldCounts (i : Fin 8) (x : Station) : (s.setStation i x).heldCounts = s.heldCounts := rfl
@[simp] theorem State.setStation_lastHandle (i : Fin 8) (x : Station) : (s.setStation i x).lastHandle = s.lastHandle := rfl
@[simp] theorem State.setStation_referrals (i : Fin 8) (x : Station) : (s.setStation i x).referrals = s.referrals := rfl
@[simp] theorem State.setStation_lastReferral (i : Fin 8) (x : Station) : (s.setStation i x).lastReferral = s.lastReferral := rfl
@[simp] theorem State.setStation_sessions (i : Fin 8) (x : Station) : (s.setStation i x).sessions = s.sessions := rfl
@[simp] theorem State.setStation_lastSession (i : Fin 8) (x : Station) : (s.setStation i x).lastSession = s.lastSession := rfl
@[simp] theorem State.setStation_awaiting (i : Fin 8) (x : Station) : (s.setStation i x).awaiting = s.awaiting := rfl
@[simp] theorem State.setStation_voucherQueue (i : Fin 8) (x : Station) : (s.setStation i x).voucherQueue = s.voucherQueue := rfl
@[simp] theorem State.setStation_transfer (i : Fin 8) (x : Station) : (s.setStation i x).transfer = s.transfer := rfl
@[simp] theorem State.setStation_tagCounter (i : Fin 8) (x : Station) : (s.setStation i x).tagCounter = s.tagCounter := rfl
@[simp] theorem State.setStation_lanes (i : Fin 8) (x : Station) : (s.setStation i x).lanes = s.lanes := rfl
@[simp] theorem State.setStation_overflow (i : Fin 8) (x : Station) : (s.setStation i x).overflow = s.overflow := rfl
@[simp] theorem State.setStation_pipes (i : Fin 8) (x : Station) : (s.setStation i x).pipes = s.pipes := rfl
@[simp] theorem State.setStation_strokes (i : Fin 8) (x : Station) : (s.setStation i x).strokes = s.strokes := rfl
@[simp] theorem State.setStation_pointer (i : Fin 8) (x : Station) : (s.setStation i x).pointer = s.pointer := rfl
@[simp] theorem State.setStation_feedFault (i : Fin 8) (x : Station) : (s.setStation i x).feedFault = s.feedFault := rfl
@[simp] theorem State.setStation_rows (i : Fin 8) (x : Station) : (s.setStation i x).rows = s.rows := rfl
@[simp] theorem State.setStation_totals (i : Fin 8) (x : Station) : (s.setStation i x).totals = s.totals := rfl
@[simp] theorem State.setStation_returned (i : Fin 8) (x : Station) : (s.setStation i x).returned = s.returned := rfl
@[simp] theorem State.setStation_stations (i : Fin 8) (x : Station) :
    (s.setStation i x).stations = s.stations.set i.val x i.isLt := rfl

/-! ## setHeld -/

@[simp] theorem State.setHeld_pending (i : Fin 8) (n : Nat) : (s.setHeld i n).pending = s.pending := rfl
@[simp] theorem State.setHeld_now (i : Fin 8) (n : Nat) : (s.setHeld i n).now = s.now := rfl
@[simp] theorem State.setHeld_serial (i : Fin 8) (n : Nat) : (s.setHeld i n).serial = s.serial := rfl
@[simp] theorem State.setHeld_draws (i : Fin 8) (n : Nat) : (s.setHeld i n).draws = s.draws := rfl
@[simp] theorem State.setHeld_resetAsserted (i : Fin 8) (n : Nat) : (s.setHeld i n).resetAsserted = s.resetAsserted := rfl
@[simp] theorem State.setHeld_feedLine (i : Fin 8) (n : Nat) : (s.setHeld i n).feedLine = s.feedLine := rfl
@[simp] theorem State.setHeld_front (i : Fin 8) (n : Nat) : (s.setHeld i n).front = s.front := rfl
@[simp] theorem State.setHeld_back (i : Fin 8) (n : Nat) : (s.setHeld i n).back = s.back := rfl
@[simp] theorem State.setHeld_params (i : Fin 8) (n : Nat) : (s.setHeld i n).params = s.params := rfl
@[simp] theorem State.setHeld_articles (i : Fin 8) (n : Nat) : (s.setHeld i n).articles = s.articles := rfl
@[simp] theorem State.setHeld_keys (i : Fin 8) (n : Nat) : (s.setHeld i n).keys = s.keys := rfl
@[simp] theorem State.setHeld_classValues (i : Fin 8) (n : Nat) : (s.setHeld i n).classValues = s.classValues := rfl
@[simp] theorem State.setHeld_heldCounts (i : Fin 8) (n : Nat) :
    (s.setHeld i n).heldCounts = s.heldCounts.set i.val n i.isLt := rfl
@[simp] theorem State.setHeld_lastHandle (i : Fin 8) (n : Nat) : (s.setHeld i n).lastHandle = s.lastHandle := rfl
@[simp] theorem State.setHeld_referrals (i : Fin 8) (n : Nat) : (s.setHeld i n).referrals = s.referrals := rfl
@[simp] theorem State.setHeld_lastReferral (i : Fin 8) (n : Nat) : (s.setHeld i n).lastReferral = s.lastReferral := rfl
@[simp] theorem State.setHeld_sessions (i : Fin 8) (n : Nat) : (s.setHeld i n).sessions = s.sessions := rfl
@[simp] theorem State.setHeld_lastSession (i : Fin 8) (n : Nat) : (s.setHeld i n).lastSession = s.lastSession := rfl
@[simp] theorem State.setHeld_awaiting (i : Fin 8) (n : Nat) : (s.setHeld i n).awaiting = s.awaiting := rfl
@[simp] theorem State.setHeld_voucherQueue (i : Fin 8) (n : Nat) : (s.setHeld i n).voucherQueue = s.voucherQueue := rfl
@[simp] theorem State.setHeld_transfer (i : Fin 8) (n : Nat) : (s.setHeld i n).transfer = s.transfer := rfl
@[simp] theorem State.setHeld_tagCounter (i : Fin 8) (n : Nat) : (s.setHeld i n).tagCounter = s.tagCounter := rfl
@[simp] theorem State.setHeld_lanes (i : Fin 8) (n : Nat) : (s.setHeld i n).lanes = s.lanes := rfl
@[simp] theorem State.setHeld_overflow (i : Fin 8) (n : Nat) : (s.setHeld i n).overflow = s.overflow := rfl
@[simp] theorem State.setHeld_pipes (i : Fin 8) (n : Nat) : (s.setHeld i n).pipes = s.pipes := rfl
@[simp] theorem State.setHeld_strokes (i : Fin 8) (n : Nat) : (s.setHeld i n).strokes = s.strokes := rfl
@[simp] theorem State.setHeld_pointer (i : Fin 8) (n : Nat) : (s.setHeld i n).pointer = s.pointer := rfl
@[simp] theorem State.setHeld_feedFault (i : Fin 8) (n : Nat) : (s.setHeld i n).feedFault = s.feedFault := rfl
@[simp] theorem State.setHeld_rows (i : Fin 8) (n : Nat) : (s.setHeld i n).rows = s.rows := rfl
@[simp] theorem State.setHeld_totals (i : Fin 8) (n : Nat) : (s.setHeld i n).totals = s.totals := rfl
@[simp] theorem State.setHeld_returned (i : Fin 8) (n : Nat) : (s.setHeld i n).returned = s.returned := rfl
@[simp] theorem State.setHeld_stations (i : Fin 8) (n : Nat) : (s.setHeld i n).stations = s.stations := rfl

/-! ## onSession -/

@[simp] theorem State.onSession_pending (n : Nat) (f : Session → Session) : (s.onSession n f).pending = s.pending := rfl
@[simp] theorem State.onSession_now (n : Nat) (f : Session → Session) : (s.onSession n f).now = s.now := rfl
@[simp] theorem State.onSession_serial (n : Nat) (f : Session → Session) : (s.onSession n f).serial = s.serial := rfl
@[simp] theorem State.onSession_draws (n : Nat) (f : Session → Session) : (s.onSession n f).draws = s.draws := rfl
@[simp] theorem State.onSession_resetAsserted (n : Nat) (f : Session → Session) : (s.onSession n f).resetAsserted = s.resetAsserted := rfl
@[simp] theorem State.onSession_feedLine (n : Nat) (f : Session → Session) : (s.onSession n f).feedLine = s.feedLine := rfl
@[simp] theorem State.onSession_front (n : Nat) (f : Session → Session) : (s.onSession n f).front = s.front := rfl
@[simp] theorem State.onSession_back (n : Nat) (f : Session → Session) : (s.onSession n f).back = s.back := rfl
@[simp] theorem State.onSession_params (n : Nat) (f : Session → Session) : (s.onSession n f).params = s.params := rfl
@[simp] theorem State.onSession_articles (n : Nat) (f : Session → Session) : (s.onSession n f).articles = s.articles := rfl
@[simp] theorem State.onSession_keys (n : Nat) (f : Session → Session) : (s.onSession n f).keys = s.keys := rfl
@[simp] theorem State.onSession_classValues (n : Nat) (f : Session → Session) : (s.onSession n f).classValues = s.classValues := rfl
@[simp] theorem State.onSession_heldCounts (n : Nat) (f : Session → Session) : (s.onSession n f).heldCounts = s.heldCounts := rfl
@[simp] theorem State.onSession_lastHandle (n : Nat) (f : Session → Session) : (s.onSession n f).lastHandle = s.lastHandle := rfl
@[simp] theorem State.onSession_referrals (n : Nat) (f : Session → Session) : (s.onSession n f).referrals = s.referrals := rfl
@[simp] theorem State.onSession_lastReferral (n : Nat) (f : Session → Session) : (s.onSession n f).lastReferral = s.lastReferral := rfl
@[simp] theorem State.onSession_sessions (n : Nat) (f : Session → Session) :
    (s.onSession n f).sessions = s.sessions.map fun x => if x.number = n then f x else x := rfl
@[simp] theorem State.onSession_lastSession (n : Nat) (f : Session → Session) : (s.onSession n f).lastSession = s.lastSession := rfl
@[simp] theorem State.onSession_awaiting (n : Nat) (f : Session → Session) : (s.onSession n f).awaiting = s.awaiting := rfl
@[simp] theorem State.onSession_voucherQueue (n : Nat) (f : Session → Session) : (s.onSession n f).voucherQueue = s.voucherQueue := rfl
@[simp] theorem State.onSession_transfer (n : Nat) (f : Session → Session) : (s.onSession n f).transfer = s.transfer := rfl
@[simp] theorem State.onSession_tagCounter (n : Nat) (f : Session → Session) : (s.onSession n f).tagCounter = s.tagCounter := rfl
@[simp] theorem State.onSession_lanes (n : Nat) (f : Session → Session) : (s.onSession n f).lanes = s.lanes := rfl
@[simp] theorem State.onSession_overflow (n : Nat) (f : Session → Session) : (s.onSession n f).overflow = s.overflow := rfl
@[simp] theorem State.onSession_pipes (n : Nat) (f : Session → Session) : (s.onSession n f).pipes = s.pipes := rfl
@[simp] theorem State.onSession_strokes (n : Nat) (f : Session → Session) : (s.onSession n f).strokes = s.strokes := rfl
@[simp] theorem State.onSession_pointer (n : Nat) (f : Session → Session) : (s.onSession n f).pointer = s.pointer := rfl
@[simp] theorem State.onSession_feedFault (n : Nat) (f : Session → Session) : (s.onSession n f).feedFault = s.feedFault := rfl
@[simp] theorem State.onSession_rows (n : Nat) (f : Session → Session) : (s.onSession n f).rows = s.rows := rfl
@[simp] theorem State.onSession_totals (n : Nat) (f : Session → Session) : (s.onSession n f).totals = s.totals := rfl
@[simp] theorem State.onSession_returned (n : Nat) (f : Session → Session) : (s.onSession n f).returned = s.returned := rfl
@[simp] theorem State.onSession_stations (n : Nat) (f : Session → Session) : (s.onSession n f).stations = s.stations := rfl

/-! ## freeSession -/

@[simp] theorem State.freeSession_pending (n : Nat) : (s.freeSession n).pending = s.pending := rfl
@[simp] theorem State.freeSession_now (n : Nat) : (s.freeSession n).now = s.now := rfl
@[simp] theorem State.freeSession_serial (n : Nat) : (s.freeSession n).serial = s.serial := rfl
@[simp] theorem State.freeSession_draws (n : Nat) : (s.freeSession n).draws = s.draws := rfl
@[simp] theorem State.freeSession_resetAsserted (n : Nat) : (s.freeSession n).resetAsserted = s.resetAsserted := rfl
@[simp] theorem State.freeSession_feedLine (n : Nat) : (s.freeSession n).feedLine = s.feedLine := rfl
@[simp] theorem State.freeSession_front (n : Nat) : (s.freeSession n).front = s.front := rfl
@[simp] theorem State.freeSession_back (n : Nat) : (s.freeSession n).back = s.back := rfl
@[simp] theorem State.freeSession_params (n : Nat) : (s.freeSession n).params = s.params := rfl
@[simp] theorem State.freeSession_articles (n : Nat) : (s.freeSession n).articles = s.articles := rfl
@[simp] theorem State.freeSession_keys (n : Nat) : (s.freeSession n).keys = s.keys := rfl
@[simp] theorem State.freeSession_classValues (n : Nat) : (s.freeSession n).classValues = s.classValues := rfl
@[simp] theorem State.freeSession_heldCounts (n : Nat) : (s.freeSession n).heldCounts = s.heldCounts := rfl
@[simp] theorem State.freeSession_lastHandle (n : Nat) : (s.freeSession n).lastHandle = s.lastHandle := rfl
@[simp] theorem State.freeSession_referrals (n : Nat) : (s.freeSession n).referrals = s.referrals := rfl
@[simp] theorem State.freeSession_lastReferral (n : Nat) : (s.freeSession n).lastReferral = s.lastReferral := rfl
@[simp] theorem State.freeSession_sessions (n : Nat) :
    (s.freeSession n).sessions = s.sessions.filter (·.number != n) := rfl
@[simp] theorem State.freeSession_lastSession (n : Nat) : (s.freeSession n).lastSession = s.lastSession := rfl
@[simp] theorem State.freeSession_awaiting (n : Nat) :
    (s.freeSession n).awaiting = s.awaiting.filter (· != n) := rfl
@[simp] theorem State.freeSession_voucherQueue (n : Nat) : (s.freeSession n).voucherQueue = s.voucherQueue := rfl
@[simp] theorem State.freeSession_transfer (n : Nat) : (s.freeSession n).transfer = s.transfer := rfl
@[simp] theorem State.freeSession_tagCounter (n : Nat) : (s.freeSession n).tagCounter = s.tagCounter := rfl
@[simp] theorem State.freeSession_lanes (n : Nat) : (s.freeSession n).lanes = s.lanes := rfl
@[simp] theorem State.freeSession_overflow (n : Nat) : (s.freeSession n).overflow = s.overflow := rfl
@[simp] theorem State.freeSession_pipes (n : Nat) : (s.freeSession n).pipes = s.pipes := rfl
@[simp] theorem State.freeSession_strokes (n : Nat) : (s.freeSession n).strokes = s.strokes := rfl
@[simp] theorem State.freeSession_pointer (n : Nat) : (s.freeSession n).pointer = s.pointer := rfl
@[simp] theorem State.freeSession_feedFault (n : Nat) : (s.freeSession n).feedFault = s.feedFault := rfl
@[simp] theorem State.freeSession_rows (n : Nat) : (s.freeSession n).rows = s.rows := rfl
@[simp] theorem State.freeSession_totals (n : Nat) : (s.freeSession n).totals = s.totals := rfl
@[simp] theorem State.freeSession_returned (n : Nat) : (s.freeSession n).returned = s.returned := rfl
@[simp] theorem State.freeSession_stations (n : Nat) : (s.freeSession n).stations = s.stations := rfl

/-! ## onTotals -/

@[simp] theorem State.onTotals_pending (f : Totals → Totals) : (s.onTotals f).pending = s.pending := rfl
@[simp] theorem State.onTotals_now (f : Totals → Totals) : (s.onTotals f).now = s.now := rfl
@[simp] theorem State.onTotals_serial (f : Totals → Totals) : (s.onTotals f).serial = s.serial := rfl
@[simp] theorem State.onTotals_draws (f : Totals → Totals) : (s.onTotals f).draws = s.draws := rfl
@[simp] theorem State.onTotals_resetAsserted (f : Totals → Totals) : (s.onTotals f).resetAsserted = s.resetAsserted := rfl
@[simp] theorem State.onTotals_feedLine (f : Totals → Totals) : (s.onTotals f).feedLine = s.feedLine := rfl
@[simp] theorem State.onTotals_front (f : Totals → Totals) : (s.onTotals f).front = s.front := rfl
@[simp] theorem State.onTotals_back (f : Totals → Totals) : (s.onTotals f).back = s.back := rfl
@[simp] theorem State.onTotals_params (f : Totals → Totals) : (s.onTotals f).params = s.params := rfl
@[simp] theorem State.onTotals_articles (f : Totals → Totals) : (s.onTotals f).articles = s.articles := rfl
@[simp] theorem State.onTotals_keys (f : Totals → Totals) : (s.onTotals f).keys = s.keys := rfl
@[simp] theorem State.onTotals_classValues (f : Totals → Totals) : (s.onTotals f).classValues = s.classValues := rfl
@[simp] theorem State.onTotals_heldCounts (f : Totals → Totals) : (s.onTotals f).heldCounts = s.heldCounts := rfl
@[simp] theorem State.onTotals_lastHandle (f : Totals → Totals) : (s.onTotals f).lastHandle = s.lastHandle := rfl
@[simp] theorem State.onTotals_referrals (f : Totals → Totals) : (s.onTotals f).referrals = s.referrals := rfl
@[simp] theorem State.onTotals_lastReferral (f : Totals → Totals) : (s.onTotals f).lastReferral = s.lastReferral := rfl
@[simp] theorem State.onTotals_sessions (f : Totals → Totals) : (s.onTotals f).sessions = s.sessions := rfl
@[simp] theorem State.onTotals_lastSession (f : Totals → Totals) : (s.onTotals f).lastSession = s.lastSession := rfl
@[simp] theorem State.onTotals_awaiting (f : Totals → Totals) : (s.onTotals f).awaiting = s.awaiting := rfl
@[simp] theorem State.onTotals_voucherQueue (f : Totals → Totals) : (s.onTotals f).voucherQueue = s.voucherQueue := rfl
@[simp] theorem State.onTotals_transfer (f : Totals → Totals) : (s.onTotals f).transfer = s.transfer := rfl
@[simp] theorem State.onTotals_tagCounter (f : Totals → Totals) : (s.onTotals f).tagCounter = s.tagCounter := rfl
@[simp] theorem State.onTotals_lanes (f : Totals → Totals) : (s.onTotals f).lanes = s.lanes := rfl
@[simp] theorem State.onTotals_overflow (f : Totals → Totals) : (s.onTotals f).overflow = s.overflow := rfl
@[simp] theorem State.onTotals_pipes (f : Totals → Totals) : (s.onTotals f).pipes = s.pipes := rfl
@[simp] theorem State.onTotals_strokes (f : Totals → Totals) : (s.onTotals f).strokes = s.strokes := rfl
@[simp] theorem State.onTotals_pointer (f : Totals → Totals) : (s.onTotals f).pointer = s.pointer := rfl
@[simp] theorem State.onTotals_feedFault (f : Totals → Totals) : (s.onTotals f).feedFault = s.feedFault := rfl
@[simp] theorem State.onTotals_rows (f : Totals → Totals) : (s.onTotals f).rows = s.rows := rfl
@[simp] theorem State.onTotals_totals (f : Totals → Totals) :
    (s.onTotals f).totals = f s.totals := rfl
@[simp] theorem State.onTotals_returned (f : Totals → Totals) : (s.onTotals f).returned = s.returned := rfl
@[simp] theorem State.onTotals_stations (f : Totals → Totals) : (s.onTotals f).stations = s.stations := rfl

/-! ## onCell -/

@[simp] theorem State.onCell_pending (r : Fin 5) (c : Column) (f : Cell → Cell) : (s.onCell r c f).pending = s.pending := rfl
@[simp] theorem State.onCell_now (r : Fin 5) (c : Column) (f : Cell → Cell) : (s.onCell r c f).now = s.now := rfl
@[simp] theorem State.onCell_serial (r : Fin 5) (c : Column) (f : Cell → Cell) : (s.onCell r c f).serial = s.serial := rfl
@[simp] theorem State.onCell_draws (r : Fin 5) (c : Column) (f : Cell → Cell) : (s.onCell r c f).draws = s.draws := rfl
@[simp] theorem State.onCell_resetAsserted (r : Fin 5) (c : Column) (f : Cell → Cell) : (s.onCell r c f).resetAsserted = s.resetAsserted := rfl
@[simp] theorem State.onCell_feedLine (r : Fin 5) (c : Column) (f : Cell → Cell) : (s.onCell r c f).feedLine = s.feedLine := rfl
@[simp] theorem State.onCell_front (r : Fin 5) (c : Column) (f : Cell → Cell) : (s.onCell r c f).front = s.front := rfl
@[simp] theorem State.onCell_back (r : Fin 5) (c : Column) (f : Cell → Cell) : (s.onCell r c f).back = s.back := rfl
@[simp] theorem State.onCell_params (r : Fin 5) (c : Column) (f : Cell → Cell) : (s.onCell r c f).params = s.params := rfl
@[simp] theorem State.onCell_articles (r : Fin 5) (c : Column) (f : Cell → Cell) : (s.onCell r c f).articles = s.articles := rfl
@[simp] theorem State.onCell_keys (r : Fin 5) (c : Column) (f : Cell → Cell) : (s.onCell r c f).keys = s.keys := rfl
@[simp] theorem State.onCell_classValues (r : Fin 5) (c : Column) (f : Cell → Cell) : (s.onCell r c f).classValues = s.classValues := rfl
@[simp] theorem State.onCell_heldCounts (r : Fin 5) (c : Column) (f : Cell → Cell) : (s.onCell r c f).heldCounts = s.heldCounts := rfl
@[simp] theorem State.onCell_lastHandle (r : Fin 5) (c : Column) (f : Cell → Cell) : (s.onCell r c f).lastHandle = s.lastHandle := rfl
@[simp] theorem State.onCell_referrals (r : Fin 5) (c : Column) (f : Cell → Cell) : (s.onCell r c f).referrals = s.referrals := rfl
@[simp] theorem State.onCell_lastReferral (r : Fin 5) (c : Column) (f : Cell → Cell) : (s.onCell r c f).lastReferral = s.lastReferral := rfl
@[simp] theorem State.onCell_sessions (r : Fin 5) (c : Column) (f : Cell → Cell) : (s.onCell r c f).sessions = s.sessions := rfl
@[simp] theorem State.onCell_lastSession (r : Fin 5) (c : Column) (f : Cell → Cell) : (s.onCell r c f).lastSession = s.lastSession := rfl
@[simp] theorem State.onCell_awaiting (r : Fin 5) (c : Column) (f : Cell → Cell) : (s.onCell r c f).awaiting = s.awaiting := rfl
@[simp] theorem State.onCell_voucherQueue (r : Fin 5) (c : Column) (f : Cell → Cell) : (s.onCell r c f).voucherQueue = s.voucherQueue := rfl
@[simp] theorem State.onCell_transfer (r : Fin 5) (c : Column) (f : Cell → Cell) : (s.onCell r c f).transfer = s.transfer := rfl
@[simp] theorem State.onCell_tagCounter (r : Fin 5) (c : Column) (f : Cell → Cell) : (s.onCell r c f).tagCounter = s.tagCounter := rfl
@[simp] theorem State.onCell_lanes (r : Fin 5) (c : Column) (f : Cell → Cell) : (s.onCell r c f).lanes = s.lanes := rfl
@[simp] theorem State.onCell_overflow (r : Fin 5) (c : Column) (f : Cell → Cell) : (s.onCell r c f).overflow = s.overflow := rfl
@[simp] theorem State.onCell_pipes (r : Fin 5) (c : Column) (f : Cell → Cell) : (s.onCell r c f).pipes = s.pipes := rfl
@[simp] theorem State.onCell_strokes (r : Fin 5) (c : Column) (f : Cell → Cell) : (s.onCell r c f).strokes = s.strokes := rfl
@[simp] theorem State.onCell_pointer (r : Fin 5) (c : Column) (f : Cell → Cell) : (s.onCell r c f).pointer = s.pointer := rfl
@[simp] theorem State.onCell_feedFault (r : Fin 5) (c : Column) (f : Cell → Cell) : (s.onCell r c f).feedFault = s.feedFault := rfl
@[simp] theorem State.onCell_rows (r : Fin 5) (c : Column) (f : Cell → Cell) :
    (s.onCell r c f).rows = s.rows.set r.val ((s.rows[r]).set c (f ((s.rows[r]).get c))) r.isLt := rfl
@[simp] theorem State.onCell_totals (r : Fin 5) (c : Column) (f : Cell → Cell) : (s.onCell r c f).totals = s.totals := rfl
@[simp] theorem State.onCell_returned (r : Fin 5) (c : Column) (f : Cell → Cell) : (s.onCell r c f).returned = s.returned := rfl
@[simp] theorem State.onCell_stations (r : Fin 5) (c : Column) (f : Cell → Cell) : (s.onCell r c f).stations = s.stations := rfl

/-! ## countReturn -/

@[simp] theorem State.countReturn_pending (r : ReturnReason) : (s.countReturn r).pending = s.pending := rfl
@[simp] theorem State.countReturn_now (r : ReturnReason) : (s.countReturn r).now = s.now := rfl
@[simp] theorem State.countReturn_serial (r : ReturnReason) : (s.countReturn r).serial = s.serial := rfl
@[simp] theorem State.countReturn_draws (r : ReturnReason) : (s.countReturn r).draws = s.draws := rfl
@[simp] theorem State.countReturn_resetAsserted (r : ReturnReason) : (s.countReturn r).resetAsserted = s.resetAsserted := rfl
@[simp] theorem State.countReturn_feedLine (r : ReturnReason) : (s.countReturn r).feedLine = s.feedLine := rfl
@[simp] theorem State.countReturn_front (r : ReturnReason) : (s.countReturn r).front = s.front := rfl
@[simp] theorem State.countReturn_back (r : ReturnReason) : (s.countReturn r).back = s.back := rfl
@[simp] theorem State.countReturn_params (r : ReturnReason) : (s.countReturn r).params = s.params := rfl
@[simp] theorem State.countReturn_articles (r : ReturnReason) : (s.countReturn r).articles = s.articles := rfl
@[simp] theorem State.countReturn_keys (r : ReturnReason) : (s.countReturn r).keys = s.keys := rfl
@[simp] theorem State.countReturn_classValues (r : ReturnReason) : (s.countReturn r).classValues = s.classValues := rfl
@[simp] theorem State.countReturn_heldCounts (r : ReturnReason) : (s.countReturn r).heldCounts = s.heldCounts := rfl
@[simp] theorem State.countReturn_lastHandle (r : ReturnReason) : (s.countReturn r).lastHandle = s.lastHandle := rfl
@[simp] theorem State.countReturn_referrals (r : ReturnReason) : (s.countReturn r).referrals = s.referrals := rfl
@[simp] theorem State.countReturn_lastReferral (r : ReturnReason) : (s.countReturn r).lastReferral = s.lastReferral := rfl
@[simp] theorem State.countReturn_sessions (r : ReturnReason) : (s.countReturn r).sessions = s.sessions := rfl
@[simp] theorem State.countReturn_lastSession (r : ReturnReason) : (s.countReturn r).lastSession = s.lastSession := rfl
@[simp] theorem State.countReturn_awaiting (r : ReturnReason) : (s.countReturn r).awaiting = s.awaiting := rfl
@[simp] theorem State.countReturn_voucherQueue (r : ReturnReason) : (s.countReturn r).voucherQueue = s.voucherQueue := rfl
@[simp] theorem State.countReturn_transfer (r : ReturnReason) : (s.countReturn r).transfer = s.transfer := rfl
@[simp] theorem State.countReturn_tagCounter (r : ReturnReason) : (s.countReturn r).tagCounter = s.tagCounter := rfl
@[simp] theorem State.countReturn_lanes (r : ReturnReason) : (s.countReturn r).lanes = s.lanes := rfl
@[simp] theorem State.countReturn_overflow (r : ReturnReason) : (s.countReturn r).overflow = s.overflow := rfl
@[simp] theorem State.countReturn_pipes (r : ReturnReason) : (s.countReturn r).pipes = s.pipes := rfl
@[simp] theorem State.countReturn_strokes (r : ReturnReason) : (s.countReturn r).strokes = s.strokes := rfl
@[simp] theorem State.countReturn_pointer (r : ReturnReason) : (s.countReturn r).pointer = s.pointer := rfl
@[simp] theorem State.countReturn_feedFault (r : ReturnReason) : (s.countReturn r).feedFault = s.feedFault := rfl
@[simp] theorem State.countReturn_rows (r : ReturnReason) : (s.countReturn r).rows = s.rows := rfl
@[simp] theorem State.countReturn_totals (r : ReturnReason) : (s.countReturn r).totals = s.totals := rfl
@[simp] theorem State.countReturn_returned (r : ReturnReason) :
    (s.countReturn r).returned = s.returned.set r.index.val (riseCount s.returned[r.index] 1) r.index.isLt := rfl
@[simp] theorem State.countReturn_stations (r : ReturnReason) : (s.countReturn r).stations = s.stations := rfl

/-! ## onPort -/

@[simp] theorem State.onPort_pending (l : Link) (f : Port → Port) : (s.onPort l f).pending = s.pending := rfl
@[simp] theorem State.onPort_now (l : Link) (f : Port → Port) : (s.onPort l f).now = s.now := rfl
@[simp] theorem State.onPort_serial (l : Link) (f : Port → Port) : (s.onPort l f).serial = s.serial := rfl
@[simp] theorem State.onPort_draws (l : Link) (f : Port → Port) : (s.onPort l f).draws = s.draws := rfl
@[simp] theorem State.onPort_resetAsserted (l : Link) (f : Port → Port) : (s.onPort l f).resetAsserted = s.resetAsserted := rfl
@[simp] theorem State.onPort_feedLine (l : Link) (f : Port → Port) : (s.onPort l f).feedLine = s.feedLine := rfl
@[simp] theorem State.onPort_params (l : Link) (f : Port → Port) : (s.onPort l f).params = s.params := rfl
@[simp] theorem State.onPort_articles (l : Link) (f : Port → Port) : (s.onPort l f).articles = s.articles := rfl
@[simp] theorem State.onPort_keys (l : Link) (f : Port → Port) : (s.onPort l f).keys = s.keys := rfl
@[simp] theorem State.onPort_classValues (l : Link) (f : Port → Port) : (s.onPort l f).classValues = s.classValues := rfl
@[simp] theorem State.onPort_heldCounts (l : Link) (f : Port → Port) : (s.onPort l f).heldCounts = s.heldCounts := rfl
@[simp] theorem State.onPort_lastHandle (l : Link) (f : Port → Port) : (s.onPort l f).lastHandle = s.lastHandle := rfl
@[simp] theorem State.onPort_referrals (l : Link) (f : Port → Port) : (s.onPort l f).referrals = s.referrals := rfl
@[simp] theorem State.onPort_lastReferral (l : Link) (f : Port → Port) : (s.onPort l f).lastReferral = s.lastReferral := rfl
@[simp] theorem State.onPort_sessions (l : Link) (f : Port → Port) : (s.onPort l f).sessions = s.sessions := rfl
@[simp] theorem State.onPort_lastSession (l : Link) (f : Port → Port) : (s.onPort l f).lastSession = s.lastSession := rfl
@[simp] theorem State.onPort_awaiting (l : Link) (f : Port → Port) : (s.onPort l f).awaiting = s.awaiting := rfl
@[simp] theorem State.onPort_voucherQueue (l : Link) (f : Port → Port) : (s.onPort l f).voucherQueue = s.voucherQueue := rfl
@[simp] theorem State.onPort_transfer (l : Link) (f : Port → Port) : (s.onPort l f).transfer = s.transfer := rfl
@[simp] theorem State.onPort_tagCounter (l : Link) (f : Port → Port) : (s.onPort l f).tagCounter = s.tagCounter := rfl
@[simp] theorem State.onPort_lanes (l : Link) (f : Port → Port) : (s.onPort l f).lanes = s.lanes := rfl
@[simp] theorem State.onPort_overflow (l : Link) (f : Port → Port) : (s.onPort l f).overflow = s.overflow := rfl
@[simp] theorem State.onPort_pipes (l : Link) (f : Port → Port) : (s.onPort l f).pipes = s.pipes := rfl
@[simp] theorem State.onPort_strokes (l : Link) (f : Port → Port) : (s.onPort l f).strokes = s.strokes := rfl
@[simp] theorem State.onPort_pointer (l : Link) (f : Port → Port) : (s.onPort l f).pointer = s.pointer := rfl
@[simp] theorem State.onPort_feedFault (l : Link) (f : Port → Port) : (s.onPort l f).feedFault = s.feedFault := rfl
@[simp] theorem State.onPort_rows (l : Link) (f : Port → Port) : (s.onPort l f).rows = s.rows := rfl
@[simp] theorem State.onPort_totals (l : Link) (f : Port → Port) : (s.onPort l f).totals = s.totals := rfl
@[simp] theorem State.onPort_returned (l : Link) (f : Port → Port) : (s.onPort l f).returned = s.returned := rfl
@[simp] theorem State.onPort_stations (l : Link) (f : Port → Port) : (s.onPort l f).stations = s.stations := rfl

/-! ## place -/

@[simp] theorem State.place_pending (f : Frame) : (s.place f).pending = s.pending := rfl
@[simp] theorem State.place_now (f : Frame) : (s.place f).now = s.now := rfl
@[simp] theorem State.place_serial (f : Frame) :
    (s.place f).serial = s.serial + 1 := rfl
@[simp] theorem State.place_draws (f : Frame) : (s.place f).draws = s.draws := rfl
@[simp] theorem State.place_resetAsserted (f : Frame) : (s.place f).resetAsserted = s.resetAsserted := rfl
@[simp] theorem State.place_feedLine (f : Frame) : (s.place f).feedLine = s.feedLine := rfl
@[simp] theorem State.place_params (f : Frame) : (s.place f).params = s.params := rfl
@[simp] theorem State.place_articles (f : Frame) : (s.place f).articles = s.articles := rfl
@[simp] theorem State.place_keys (f : Frame) : (s.place f).keys = s.keys := rfl
@[simp] theorem State.place_classValues (f : Frame) : (s.place f).classValues = s.classValues := rfl
@[simp] theorem State.place_heldCounts (f : Frame) : (s.place f).heldCounts = s.heldCounts := rfl
@[simp] theorem State.place_lastHandle (f : Frame) : (s.place f).lastHandle = s.lastHandle := rfl
@[simp] theorem State.place_referrals (f : Frame) : (s.place f).referrals = s.referrals := rfl
@[simp] theorem State.place_lastReferral (f : Frame) : (s.place f).lastReferral = s.lastReferral := rfl
@[simp] theorem State.place_sessions (f : Frame) : (s.place f).sessions = s.sessions := rfl
@[simp] theorem State.place_lastSession (f : Frame) : (s.place f).lastSession = s.lastSession := rfl
@[simp] theorem State.place_awaiting (f : Frame) : (s.place f).awaiting = s.awaiting := rfl
@[simp] theorem State.place_voucherQueue (f : Frame) : (s.place f).voucherQueue = s.voucherQueue := rfl
@[simp] theorem State.place_transfer (f : Frame) : (s.place f).transfer = s.transfer := rfl
@[simp] theorem State.place_tagCounter (f : Frame) : (s.place f).tagCounter = s.tagCounter := rfl
@[simp] theorem State.place_lanes (f : Frame) : (s.place f).lanes = s.lanes := rfl
@[simp] theorem State.place_overflow (f : Frame) : (s.place f).overflow = s.overflow := rfl
@[simp] theorem State.place_pipes (f : Frame) : (s.place f).pipes = s.pipes := rfl
@[simp] theorem State.place_strokes (f : Frame) : (s.place f).strokes = s.strokes := rfl
@[simp] theorem State.place_pointer (f : Frame) : (s.place f).pointer = s.pointer := rfl
@[simp] theorem State.place_feedFault (f : Frame) : (s.place f).feedFault = s.feedFault := rfl
@[simp] theorem State.place_rows (f : Frame) : (s.place f).rows = s.rows := rfl
@[simp] theorem State.place_totals (f : Frame) : (s.place f).totals = s.totals := rfl
@[simp] theorem State.place_returned (f : Frame) : (s.place f).returned = s.returned := rfl
@[simp] theorem State.place_stations (f : Frame) : (s.place f).stations = s.stations := rfl

/-! ## Ports -/

@[simp] theorem State.onPort_front_front (f : Port → Port) : (s.onPort .front f).front = f s.front := rfl
@[simp] theorem State.onPort_front_back (f : Port → Port) : (s.onPort .front f).back = s.back := rfl
@[simp] theorem State.onPort_back_front (f : Port → Port) : (s.onPort .back f).front = s.front := rfl
@[simp] theorem State.onPort_back_back (f : Port → Port) : (s.onPort .back f).back = f s.back := rfl
@[simp] theorem State.port_front : s.port .front = s.front := rfl
@[simp] theorem State.port_back : s.port .back = s.back := rfl

/-! ## Reading what was written -/

theorem State.setLane_get (i j : Fin 12) (l : Lane) :
    (s.setLane i l).lanes[j] = if i = j then l else s.lanes[j] := by
  simp [Vector.getElem_set, Fin.ext_iff]

@[simp] theorem State.setLane_self (i : Fin 12) (l : Lane) : (s.setLane i l).lanes[i] = l := by
  simp

theorem State.setLane_other (i j : Fin 12) (l : Lane) (h : i ≠ j) :
    (s.setLane i l).lanes[j] = s.lanes[j] := by
  rw [State.setLane_get, if_neg h]

theorem State.setPipe_get (i j : Fin 12) (p : Pipeline) :
    (s.setPipe i p).pipes[j] = if i = j then p else s.pipes[j] := by
  simp [Vector.getElem_set, Fin.ext_iff]

@[simp] theorem State.setPipe_self (i : Fin 12) (p : Pipeline) : (s.setPipe i p).pipes[i] = p := by
  simp

theorem State.setPipe_other (i j : Fin 12) (p : Pipeline) (h : i ≠ j) :
    (s.setPipe i p).pipes[j] = s.pipes[j] := by
  rw [State.setPipe_get, if_neg h]

theorem State.setStation_get (i j : Fin 8) (x : Station) :
    (s.setStation i x).stations[j] = if i = j then x else s.stations[j] := by
  simp [Vector.getElem_set, Fin.ext_iff]

@[simp] theorem State.setStation_self (i : Fin 8) (x : Station) :
    (s.setStation i x).stations[i] = x := by
  simp

theorem State.setStation_other (i j : Fin 8) (x : Station) (h : i ≠ j) :
    (s.setStation i x).stations[j] = s.stations[j] := by
  rw [State.setStation_get, if_neg h]

end Sys2Proof.Machine
end

