-- ==== Sys2Proof/Laws/Produce.lean ====
section
/-! SUPPORT. What producing frames does, said once: `place`, `placeAll`, `reply`, `refuse` and `notify`
answer a state that `Sends` relates to the one before, and change no field but the ports and the
serial. -/

namespace Sys2Proof.Machine

/-! ## Ports -/

theorem Port.Took.refl (p : Port) : p.Took [] p := ⟨⟨[], by simp, rfl⟩, rfl⟩

theorem Port.Took.trans {fs gs : List Frame} {p q r : Port} (h : p.Took fs q) (k : q.Took gs r) :
    p.Took (fs ++ gs) r := by
  obtain ⟨⟨new, hall, hmap⟩, hrest⟩ := h
  obtain ⟨⟨new', kall, kmap⟩, krest⟩ := k
  refine ⟨⟨new ++ new', by rw [kall, hall, List.append_assoc], by rw [List.map_append, hmap, kmap]⟩, ?_⟩
  rw [krest, hrest]

theorem Port.produce_all (cap : Nat) (q : Queued) (p : Port) :
    (p.produce cap q).all = p.all ++ [q] := by
  unfold Port.produce Port.all
  split
  · next h => simp [h.1]
  · simp

theorem Port.produce_took (cap : Nat) (q : Queued) (p : Port) :
    p.Took [q.frame] (p.produce cap q) := by
  refine ⟨⟨[q], Port.produce_all cap q p, rfl⟩, ?_⟩
  unfold Port.produce
  split <;> rfl

/-- The place rule keeps a queue within its capacity (R173). -/
theorem Port.produce_length (cap : Nat) (q : Queued) (p : Port) (h : p.queue.length ≤ cap) :
    (p.produce cap q).queue.length ≤ cap := by
  unfold Port.produce
  split
  · next hc => simp; omega
  · exact h

/-! ## Sends -/

theorem Sends.refl (s : State) : Sends [] [] s s := ⟨Port.Took.refl _, Port.Took.refl _, rfl⟩

theorem Sends.trans {fs bs gs cs : List Frame} {s t u : State} (h : Sends fs bs s t)
    (k : Sends gs cs t u) : Sends (fs ++ gs) (bs ++ cs) s u := by
  refine ⟨h.front.trans k.front, h.back.trans k.back, ?_⟩
  rw [k.rest, h.rest]

theorem State.place_sends_front {f : Frame} (h : f.link = .front) (s : State) :
    Sends [f] [] s (s.place f) := by
  refine ⟨?_, ?_, rfl⟩
  · simp only [State.place, h]; exact Port.produce_took _ _ _
  · simp only [State.place, h]; exact Port.Took.refl _

theorem State.place_sends_back {f : Frame} (h : f.link = .back) (s : State) :
    Sends [] [f] s (s.place f) := by
  refine ⟨?_, ?_, rfl⟩
  · simp only [State.place, h]; exact Port.Took.refl _
  · simp only [State.place, h]; exact Port.produce_took _ _ _

theorem State.placeAll_nil (s : State) : s.placeAll [] = s := rfl

theorem State.placeAll_cons (f : Frame) (fs : List Frame) (s : State) :
    s.placeAll (f :: fs) = (s.place f).placeAll fs := rfl

theorem State.placeAll_sends_front {fs : List Frame} (h : ∀ f ∈ fs, f.link = .front) (s : State) :
    Sends fs [] s (s.placeAll fs) := by
  induction fs generalizing s with
  | nil => exact Sends.refl s
  | cons f fs ih =>
    rw [State.placeAll_cons]
    exact (State.place_sends_front (h f (by simp)) s).trans
      (ih (fun g hg => h g (by simp [hg])) (s.place f))

theorem replyFrames_front (tag : Byte) (code : Nat) (r : ReplyCode) (results : List Byte) :
    ∀ f ∈ replyFrames tag code r results, f.link = .front := by
  intro f hf
  unfold replyFrames at hf
  obtain ⟨p, _, rfl⟩ := List.mem_map.mp hf
  rfl

/-- A REPLY is all that a `reply` sends (R174). -/
theorem State.reply_sends (tag : Byte) (code : Nat) (r : ReplyCode) (results : List Byte)
    (s : State) : Sends (replyFrames tag code r results) [] s (s.reply tag code r results) :=
  State.placeAll_sends_front (replyFrames_front tag code r results) s

/-- A refused command sends its REPLY and does nothing else (R174). -/
theorem State.refuse_sends (tag : Byte) (code : Nat) (r : ReplyCode) (s : State) :
    Sends (replyFrames tag code r []) [] s (s.refuse tag code r) :=
  State.reply_sends tag code r [] s

/-- A NOTICE is all that a `notify` sends (R176). -/
theorem State.notify_sends (n : Notice) (s : State) : Sends [.notice n] [] s (s.notify n) :=
  State.place_sends_front rfl s

/-- A REPLY without results is one frame, part 1 and last (R174, log entry 17). -/
theorem replyFrames_nil (tag : Byte) (code : Nat) (r : ReplyCode) :
    replyFrames tag code r [] = [.reply tag code r 1 true []] := rfl

/-! ## Fields that producing frames leaves -/

theorem State.placeAll_rest (fs : List Frame) (s : State) :
    s.placeAll fs = { s with serial := (s.placeAll fs).serial, front := (s.placeAll fs).front,
                             back := (s.placeAll fs).back } := by
  induction fs generalizing s with
  | nil => rfl
  | cons f fs ih => rw [State.placeAll_cons, ih (s.place f)]; rfl

section
variable (s : State)

@[simp] theorem State.placeAll_pending (fs : List Frame) : (s.placeAll fs).pending = s.pending := by
  rw [State.placeAll_rest]
@[simp] theorem State.placeAll_now (fs : List Frame) : (s.placeAll fs).now = s.now := by
  rw [State.placeAll_rest]
@[simp] theorem State.placeAll_draws (fs : List Frame) : (s.placeAll fs).draws = s.draws := by
  rw [State.placeAll_rest]
@[simp] theorem State.placeAll_resetAsserted (fs : List Frame) : (s.placeAll fs).resetAsserted = s.resetAsserted := by
  rw [State.placeAll_rest]
@[simp] theorem State.placeAll_feedLine (fs : List Frame) : (s.placeAll fs).feedLine = s.feedLine := by
  rw [State.placeAll_rest]
@[simp] theorem State.placeAll_params (fs : List Frame) : (s.placeAll fs).params = s.params := by
  rw [State.placeAll_rest]
@[simp] theorem State.placeAll_articles (fs : List Frame) : (s.placeAll fs).articles = s.articles := by
  rw [State.placeAll_rest]
@[simp] theorem State.placeAll_keys (fs : List Frame) : (s.placeAll fs).keys = s.keys := by
  rw [State.placeAll_rest]
@[simp] theorem State.placeAll_classValues (fs : List Frame) : (s.placeAll fs).classValues = s.classValues := by
  rw [State.placeAll_rest]
@[simp] theorem State.placeAll_heldCounts (fs : List Frame) : (s.placeAll fs).heldCounts = s.heldCounts := by
  rw [State.placeAll_rest]
@[simp] theorem State.placeAll_lastHandle (fs : List Frame) : (s.placeAll fs).lastHandle = s.lastHandle := by
  rw [State.placeAll_rest]
@[simp] theorem State.placeAll_referrals (fs : List Frame) : (s.placeAll fs).referrals = s.referrals := by
  rw [State.placeAll_rest]
@[simp] theorem State.placeAll_lastReferral (fs : List Frame) : (s.placeAll fs).lastReferral = s.lastReferral := by
  rw [State.placeAll_rest]
@[simp] theorem State.placeAll_sessions (fs : List Frame) : (s.placeAll fs).sessions = s.sessions := by
  rw [State.placeAll_rest]
@[simp] theorem State.placeAll_lastSession (fs : List Frame) : (s.placeAll fs).lastSession = s.lastSession := by
  rw [State.placeAll_rest]
@[simp] theorem State.placeAll_awaiting (fs : List Frame) : (s.placeAll fs).awaiting = s.awaiting := by
  rw [State.placeAll_rest]
@[simp] theorem State.placeAll_voucherQueue (fs : List Frame) : (s.placeAll fs).voucherQueue = s.voucherQueue := by
  rw [State.placeAll_rest]
@[simp] theorem State.placeAll_transfer (fs : List Frame) : (s.placeAll fs).transfer = s.transfer := by
  rw [State.placeAll_rest]
@[simp] theorem State.placeAll_tagCounter (fs : List Frame) : (s.placeAll fs).tagCounter = s.tagCounter := by
  rw [State.placeAll_rest]
@[simp] theorem State.placeAll_lanes (fs : List Frame) : (s.placeAll fs).lanes = s.lanes := by
  rw [State.placeAll_rest]
@[simp] theorem State.placeAll_overflow (fs : List Frame) : (s.placeAll fs).overflow = s.overflow := by
  rw [State.placeAll_rest]
@[simp] theorem State.placeAll_pipes (fs : List Frame) : (s.placeAll fs).pipes = s.pipes := by
  rw [State.placeAll_rest]
@[simp] theorem State.placeAll_strokes (fs : List Frame) : (s.placeAll fs).strokes = s.strokes := by
  rw [State.placeAll_rest]
@[simp] theorem State.placeAll_pointer (fs : List Frame) : (s.placeAll fs).pointer = s.pointer := by
  rw [State.placeAll_rest]
@[simp] theorem State.placeAll_feedFault (fs : List Frame) : (s.placeAll fs).feedFault = s.feedFault := by
  rw [State.placeAll_rest]
@[simp] theorem State.placeAll_rows (fs : List Frame) : (s.placeAll fs).rows = s.rows := by
  rw [State.placeAll_rest]
@[simp] theorem State.placeAll_totals (fs : List Frame) : (s.placeAll fs).totals = s.totals := by
  rw [State.placeAll_rest]
@[simp] theorem State.placeAll_returned (fs : List Frame) : (s.placeAll fs).returned = s.returned := by
  rw [State.placeAll_rest]
@[simp] theorem State.placeAll_stations (fs : List Frame) : (s.placeAll fs).stations = s.stations := by
  rw [State.placeAll_rest]

variable (tag : Byte) (code : Nat) (r : ReplyCode)

@[simp] theorem State.reply_pending (results : List Byte) :
    (s.reply tag code r results).pending = s.pending := State.placeAll_pending s _
@[simp] theorem State.reply_now (results : List Byte) :
    (s.reply tag code r results).now = s.now := State.placeAll_now s _
@[simp] theorem State.reply_draws (results : List Byte) :
    (s.reply tag code r results).draws = s.draws := State.placeAll_draws s _
@[simp] theorem State.reply_resetAsserted (results : List Byte) :
    (s.reply tag code r results).resetAsserted = s.resetAsserted := State.placeAll_resetAsserted s _
@[simp] theorem State.reply_feedLine (results : List Byte) :
    (s.reply tag code r results).feedLine = s.feedLine := State.placeAll_feedLine s _
@[simp] theorem State.reply_params (results : List Byte) :
    (s.reply tag code r results).params = s.params := State.placeAll_params s _
@[simp] theorem State.reply_articles (results : List Byte) :
    (s.reply tag code r results).articles = s.articles := State.placeAll_articles s _
@[simp] theorem State.reply_keys (results : List Byte) :
    (s.reply tag code r results).keys = s.keys := State.placeAll_keys s _
@[simp] theorem State.reply_classValues (results : List Byte) :
    (s.reply tag code r results).classValues = s.classValues := State.placeAll_classValues s _
@[simp] theorem State.reply_heldCounts (results : List Byte) :
    (s.reply tag code r results).heldCounts = s.heldCounts := State.placeAll_heldCounts s _
@[simp] theorem State.reply_lastHandle (results : List Byte) :
    (s.reply tag code r results).lastHandle = s.lastHandle := State.placeAll_lastHandle s _
@[simp] theorem State.reply_referrals (results : List Byte) :
    (s.reply tag code r results).referrals = s.referrals := State.placeAll_referrals s _
@[simp] theorem State.reply_lastReferral (results : List Byte) :
    (s.reply tag code r results).lastReferral = s.lastReferral := State.placeAll_lastReferral s _
@[simp] theorem State.reply_sessions (results : List Byte) :
    (s.reply tag code r results).sessions = s.sessions := State.placeAll_sessions s _
@[simp] theorem State.reply_lastSession (results : List Byte) :
    (s.reply tag code r results).lastSession = s.lastSession := State.placeAll_lastSession s _
@[simp] theorem State.reply_awaiting (results : List Byte) :
    (s.reply tag code r results).awaiting = s.awaiting := State.placeAll_awaiting s _
@[simp] theorem State.reply_voucherQueue (results : List Byte) :
    (s.reply tag code r results).voucherQueue = s.voucherQueue := State.placeAll_voucherQueue s _
@[simp] theorem State.reply_transfer (results : List Byte) :
    (s.reply tag code r results).transfer = s.transfer := State.placeAll_transfer s _
@[simp] theorem State.reply_tagCounter (results : List Byte) :
    (s.reply tag code r results).tagCounter = s.tagCounter := State.placeAll_tagCounter s _
@[simp] theorem State.reply_lanes (results : List Byte) :
    (s.reply tag code r results).lanes = s.lanes := State.placeAll_lanes s _
@[simp] theorem State.reply_overflow (results : List Byte) :
    (s.reply tag code r results).overflow = s.overflow := State.placeAll_overflow s _
@[simp] theorem State.reply_pipes (results : List Byte) :
    (s.reply tag code r results).pipes = s.pipes := State.placeAll_pipes s _
@[simp] theorem State.reply_strokes (results : List Byte) :
    (s.reply tag code r results).strokes = s.strokes := State.placeAll_strokes s _
@[simp] theorem State.reply_pointer (results : List Byte) :
    (s.reply tag code r results).pointer = s.pointer := State.placeAll_pointer s _
@[simp] theorem State.reply_feedFault (results : List Byte) :
    (s.reply tag code r results).feedFault = s.feedFault := State.placeAll_feedFault s _
@[simp] theorem State.reply_rows (results : List Byte) :
    (s.reply tag code r results).rows = s.rows := State.placeAll_rows s _
@[simp] theorem State.reply_totals (results : List Byte) :
    (s.reply tag code r results).totals = s.totals := State.placeAll_totals s _
@[simp] theorem State.reply_returned (results : List Byte) :
    (s.reply tag code r results).returned = s.returned := State.placeAll_returned s _
@[simp] theorem State.reply_stations (results : List Byte) :
    (s.reply tag code r results).stations = s.stations := State.placeAll_stations s _

@[simp] theorem State.refuse_pending : (s.refuse tag code r).pending = s.pending := State.placeAll_pending s _
@[simp] theorem State.refuse_now : (s.refuse tag code r).now = s.now := State.placeAll_now s _
@[simp] theorem State.refuse_draws : (s.refuse tag code r).draws = s.draws := State.placeAll_draws s _
@[simp] theorem State.refuse_resetAsserted : (s.refuse tag code r).resetAsserted = s.resetAsserted := State.placeAll_resetAsserted s _
@[simp] theorem State.refuse_feedLine : (s.refuse tag code r).feedLine = s.feedLine := State.placeAll_feedLine s _
@[simp] theorem State.refuse_params : (s.refuse tag code r).params = s.params := State.placeAll_params s _
@[simp] theorem State.refuse_articles : (s.refuse tag code r).articles = s.articles := State.placeAll_articles s _
@[simp] theorem State.refuse_keys : (s.refuse tag code r).keys = s.keys := State.placeAll_keys s _
@[simp] theorem State.refuse_classValues : (s.refuse tag code r).classValues = s.classValues := State.placeAll_classValues s _
@[simp] theorem State.refuse_heldCounts : (s.refuse tag code r).heldCounts = s.heldCounts := State.placeAll_heldCounts s _
@[simp] theorem State.refuse_lastHandle : (s.refuse tag code r).lastHandle = s.lastHandle := State.placeAll_lastHandle s _
@[simp] theorem State.refuse_referrals : (s.refuse tag code r).referrals = s.referrals := State.placeAll_referrals s _
@[simp] theorem State.refuse_lastReferral : (s.refuse tag code r).lastReferral = s.lastReferral := State.placeAll_lastReferral s _
@[simp] theorem State.refuse_sessions : (s.refuse tag code r).sessions = s.sessions := State.placeAll_sessions s _
@[simp] theorem State.refuse_lastSession : (s.refuse tag code r).lastSession = s.lastSession := State.placeAll_lastSession s _
@[simp] theorem State.refuse_awaiting : (s.refuse tag code r).awaiting = s.awaiting := State.placeAll_awaiting s _
@[simp] theorem State.refuse_voucherQueue : (s.refuse tag code r).voucherQueue = s.voucherQueue := State.placeAll_voucherQueue s _
@[simp] theorem State.refuse_transfer : (s.refuse tag code r).transfer = s.transfer := State.placeAll_transfer s _
@[simp] theorem State.refuse_tagCounter : (s.refuse tag code r).tagCounter = s.tagCounter := State.placeAll_tagCounter s _
@[simp] theorem State.refuse_lanes : (s.refuse tag code r).lanes = s.lanes := State.placeAll_lanes s _
@[simp] theorem State.refuse_overflow : (s.refuse tag code r).overflow = s.overflow := State.placeAll_overflow s _
@[simp] theorem State.refuse_pipes : (s.refuse tag code r).pipes = s.pipes := State.placeAll_pipes s _
@[simp] theorem State.refuse_strokes : (s.refuse tag code r).strokes = s.strokes := State.placeAll_strokes s _
@[simp] theorem State.refuse_pointer : (s.refuse tag code r).pointer = s.pointer := State.placeAll_pointer s _
@[simp] theorem State.refuse_feedFault : (s.refuse tag code r).feedFault = s.feedFault := State.placeAll_feedFault s _
@[simp] theorem State.refuse_rows : (s.refuse tag code r).rows = s.rows := State.placeAll_rows s _
@[simp] theorem State.refuse_totals : (s.refuse tag code r).totals = s.totals := State.placeAll_totals s _
@[simp] theorem State.refuse_returned : (s.refuse tag code r).returned = s.returned := State.placeAll_returned s _
@[simp] theorem State.refuse_stations : (s.refuse tag code r).stations = s.stations := State.placeAll_stations s _

@[simp] theorem State.notify_pending (n : Notice) : (s.notify n).pending = s.pending := rfl
@[simp] theorem State.notify_now (n : Notice) : (s.notify n).now = s.now := rfl
@[simp] theorem State.notify_draws (n : Notice) : (s.notify n).draws = s.draws := rfl
@[simp] theorem State.notify_resetAsserted (n : Notice) : (s.notify n).resetAsserted = s.resetAsserted := rfl
@[simp] theorem State.notify_feedLine (n : Notice) : (s.notify n).feedLine = s.feedLine := rfl
@[simp] theorem State.notify_params (n : Notice) : (s.notify n).params = s.params := rfl
@[simp] theorem State.notify_articles (n : Notice) : (s.notify n).articles = s.articles := rfl
@[simp] theorem State.notify_keys (n : Notice) : (s.notify n).keys = s.keys := rfl
@[simp] theorem State.notify_classValues (n : Notice) : (s.notify n).classValues = s.classValues := rfl
@[simp] theorem State.notify_heldCounts (n : Notice) : (s.notify n).heldCounts = s.heldCounts := rfl
@[simp] theorem State.notify_lastHandle (n : Notice) : (s.notify n).lastHandle = s.lastHandle := rfl
@[simp] theorem State.notify_referrals (n : Notice) : (s.notify n).referrals = s.referrals := rfl
@[simp] theorem State.notify_lastReferral (n : Notice) : (s.notify n).lastReferral = s.lastReferral := rfl
@[simp] theorem State.notify_sessions (n : Notice) : (s.notify n).sessions = s.sessions := rfl
@[simp] theorem State.notify_lastSession (n : Notice) : (s.notify n).lastSession = s.lastSession := rfl
@[simp] theorem State.notify_awaiting (n : Notice) : (s.notify n).awaiting = s.awaiting := rfl
@[simp] theorem State.notify_voucherQueue (n : Notice) : (s.notify n).voucherQueue = s.voucherQueue := rfl
@[simp] theorem State.notify_transfer (n : Notice) : (s.notify n).transfer = s.transfer := rfl
@[simp] theorem State.notify_tagCounter (n : Notice) : (s.notify n).tagCounter = s.tagCounter := rfl
@[simp] theorem State.notify_lanes (n : Notice) : (s.notify n).lanes = s.lanes := rfl
@[simp] theorem State.notify_overflow (n : Notice) : (s.notify n).overflow = s.overflow := rfl
@[simp] theorem State.notify_pipes (n : Notice) : (s.notify n).pipes = s.pipes := rfl
@[simp] theorem State.notify_strokes (n : Notice) : (s.notify n).strokes = s.strokes := rfl
@[simp] theorem State.notify_pointer (n : Notice) : (s.notify n).pointer = s.pointer := rfl
@[simp] theorem State.notify_feedFault (n : Notice) : (s.notify n).feedFault = s.feedFault := rfl
@[simp] theorem State.notify_rows (n : Notice) : (s.notify n).rows = s.rows := rfl
@[simp] theorem State.notify_totals (n : Notice) : (s.notify n).totals = s.totals := rfl
@[simp] theorem State.notify_returned (n : Notice) : (s.notify n).returned = s.returned := rfl
@[simp] theorem State.notify_stations (n : Notice) : (s.notify n).stations = s.stations := rfl

end

/-! ## Sends and the fields -/

/-- A field that is no port and no serial is the same after frames have been produced. -/
theorem Sends.field {α : Type} {fs bs : List Frame} {s t : State} (h : Sends fs bs s t)
    (get : State → α) (hg : ∀ (n : Nat) (p q : Port) (x : State),
      get { x with serial := n, front := p, back := q } = get x) : get t = get s := by
  rw [h.rest, hg]

end Sys2Proof.Machine
end

