-- ==== Sys2Proof/Laws/Frame.lean ====
section
/-! SUPPORT. Which fields each shared operation can change, said once per operation: the lane operations
stay in the back room (`LaneOnly`), the session operations stay with sessions and vouchers
(`SessionOnly`), and an evaluation changes only what `EvalOnly` names. -/

namespace Sys2Proof.Machine

/-! ## Lane operations -/

/-- `t` differs from `s` at most in the ports, the serial, the lanes, the pipelines, the stroke budget,
the overflow record and the corner totals. -/
def LaneOnly (s t : State) : Prop :=
  t = { s with serial := t.serial, front := t.front, back := t.back, lanes := t.lanes,
               pipes := t.pipes, strokes := t.strokes, pointer := t.pointer,
               overflow := t.overflow, totals := t.totals }

theorem LaneOnly.refl (s : State) : LaneOnly s s := rfl

theorem LaneOnly.trans {s t u : State} (h : LaneOnly s t) (k : LaneOnly t u) : LaneOnly s u := by
  unfold LaneOnly at *
  rw [k, h]

theorem LaneOnly.place (f : Frame) (s : State) : LaneOnly s (s.place f) := rfl

theorem LaneOnly.setLane (i : Fin 12) (l : Lane) (s : State) : LaneOnly s (s.setLane i l) := rfl

theorem LaneOnly.setPipe (i : Fin 12) (p : Pipeline) (s : State) : LaneOnly s (s.setPipe i p) := rfl

theorem State.stage_laneOnly (i : Fin 12) (s : State) : LaneOnly s (s.stage i) := by
  unfold State.stage
  dsimp only
  split
  · split <;> rfl
  · rfl

theorem State.enterDropping_laneOnly (i : Fin 12) (s : State) : LaneOnly s (s.enterDropping i) := by
  unfold State.enterDropping
  split
  · rfl
  · exact LaneOnly.trans (by rfl) (State.stage_laneOnly i _)

theorem State.grant_laneOnly (i : Fin 12) (w : Nat) (s : State) : LaneOnly s (s.grant i w) := by
  unfold State.grant
  exact LaneOnly.trans (by rfl) (State.enterDropping_laneOnly i _)

theorem State.grantInTurn_laneOnly (n : Nat) (s : State) : LaneOnly s (State.grantInTurn n s) := by
  induction n generalizing s with
  | zero => rfl
  | succ n ih =>
    unfold State.grantInTurn
    split
    · rfl
    · split
      · rfl
      · split
        · exact (State.grant_laneOnly _ _ s).trans (ih _)
        · rfl

theorem State.consider_laneOnly (s : State) : LaneOnly s s.consider := by
  unfold State.consider
  split
  · rfl
  · exact State.grantInTurn_laneOnly 12 s

theorem State.requestStroke_laneOnly (i : Fin 12) (s : State) : LaneOnly s (s.requestStroke i) := by
  unfold State.requestStroke
  exact LaneOnly.trans (by rfl) (State.consider_laneOnly _)

theorem State.withdrawStroke_laneOnly (i : Fin 12) (s : State) :
    LaneOnly s (s.withdrawStroke i) := by
  unfold State.withdrawStroke
  split
  · exact LaneOnly.trans (by rfl) (State.consider_laneOnly _)
  · rfl

theorem State.startDrop_laneOnly (i : Fin 12) (s : State) : LaneOnly s (s.startDrop i) := by
  unfold State.startDrop
  dsimp only
  split
  · split
    · exact State.enterDropping_laneOnly i s
    all_goals
      split
      · rfl
      · exact State.requestStroke_laneOnly i s
  · rfl

theorem State.advance_laneOnly (i : Fin 12) (s : State) : LaneOnly s (s.advance i) :=
  (State.stage_laneOnly i s).trans (State.startDrop_laneOnly i _)

theorem State.appendOrder_laneOnly (i : Fin 12) (o : Order) (s : State) :
    LaneOnly s (s.appendOrder i o) := by
  unfold State.appendOrder
  exact LaneOnly.trans (by rfl) (State.advance_laneOnly i _)

theorem State.testNearlyFull_laneOnly (i : Fin 12) (s : State) :
    LaneOnly s (s.testNearlyFull i) := by
  unfold State.testNearlyFull
  dsimp only
  split <;> rfl

theorem State.reserve_laneOnly (i : Fin 12) (f : Nat) (s : State) : LaneOnly s (s.reserve i f) := by
  unfold State.reserve
  exact LaneOnly.trans (by rfl) (State.testNearlyFull_laneOnly i _)

theorem State.release_laneOnly (i : Fin 12) (f : Nat) (s : State) : LaneOnly s (s.release i f) := by
  unfold State.release
  exact LaneOnly.trans (by rfl) (State.testNearlyFull_laneOnly i _)

theorem State.commit_laneOnly (i : Fin 12) (f : Nat) (s : State) : LaneOnly s (s.commit i f) := by
  unfold State.commit
  exact LaneOnly.trans (by rfl) (State.testNearlyFull_laneOnly i _)

theorem State.testOverflowHigh_laneOnly (s : State) : LaneOnly s s.testOverflowHigh := by
  unfold State.testOverflowHigh
  split <;> rfl

theorem State.overflowOrder_laneOnly (o : Order) (s : State) : LaneOnly s (s.overflowOrder o) := by
  unfold State.overflowOrder
  exact LaneOnly.trans (by rfl) (State.testOverflowHigh_laneOnly _)

theorem State.toOverflow_laneOnly (i : Fin 12) (o : Order) (s : State) :
    LaneOnly s (s.toOverflow i o) :=
  (State.release_laneOnly i o.fill s).trans (State.overflowOrder_laneOnly o _)

theorem State.changeLane_laneOnly (i : Fin 12) (st : LaneState) (s : State) :
    LaneOnly s (s.changeLane i st) := by
  unfold State.changeLane
  dsimp only
  split
  · rfl
  · exact LaneOnly.trans (by rfl) (State.withdrawStroke_laneOnly i _)

theorem State.reroute_laneOnly (i : Fin 12) (o : Order) (s : State) :
    LaneOnly s (s.reroute i o) := by
  unfold State.reroute
  dsimp only
  split
  · exact (State.release_laneOnly i o.fill s).trans
      ((State.reserve_laneOnly _ _ _).trans (State.appendOrder_laneOnly _ _ _))
  · exact (State.release_laneOnly i o.fill s).trans (State.overflowOrder_laneOnly o _)

theorem State.rerouteAll_laneOnly (i : Fin 12) (os : List Order) (s : State) :
    LaneOnly s (s.rerouteAll i os) := by
  induction os generalizing s with
  | nil => rfl
  | cons o os ih =>
    unfold State.rerouteAll
    exact LaneOnly.trans (LaneOnly.trans (by rfl) (State.reroute_laneOnly i o _)) (ih _)

theorem State.overflowStaged_laneOnly (i : Fin 12) (s : State) :
    LaneOnly s (s.overflowStaged i) := by
  unfold State.overflowStaged
  split
  · rfl
  · exact LaneOnly.trans (by rfl) (State.toOverflow_laneOnly i _ _)

theorem State.enterOut_laneOnly (i : Fin 12) (st : LaneState) (s : State) :
    LaneOnly s (s.enterOut i st) := by
  unfold State.enterOut
  exact LaneOnly.trans (LaneOnly.trans (LaneOnly.trans (LaneOnly.trans (by rfl)
    (State.withdrawStroke_laneOnly i _)) (State.overflowStaged_laneOnly i _))
    (State.rerouteAll_laneOnly i _ _)) rfl

theorem State.returnTo_laneOnly (i : Fin 12) (b : RunState) (s : State) :
    LaneOnly s (s.returnTo i b) := by
  unfold State.returnTo
  dsimp only
  split
  · exact (State.changeLane_laneOnly i _ s).trans (State.changeLane_laneOnly i _ _)
  · exact (State.changeLane_laneOnly i _ s).trans (State.advance_laneOnly i _)

theorem State.enterFault_laneOnly (i : Fin 12) (s : State) : LaneOnly s (s.enterFault i) := by
  unfold State.enterFault
  split <;> first | exact State.enterOut_laneOnly i _ s | rfl

theorem State.recordResult_laneOnly (i : Fin 12) (r : DropResult) (s : State) :
    LaneOnly s (s.recordResult i r) := by
  unfold State.recordResult
  dsimp only
  split
  · exact LaneOnly.trans (by rfl) (State.enterFault_laneOnly i _)
  · rfl

theorem State.goOn_laneOnly (i : Fin 12) (s : State) : LaneOnly s (s.goOn i) := by
  unfold State.goOn
  split
  · exact State.advance_laneOnly i s
  · dsimp only
    split
    · exact (State.advance_laneOnly i s).trans (State.changeLane_laneOnly i _ _)
    · exact State.advance_laneOnly i s
  all_goals rfl

theorem State.endDrop_laneOnly (i : Fin 12) (r : DropResult) (s : State) :
    LaneOnly s (s.endDrop i r) := by
  unfold State.endDrop
  split
  · rfl
  · refine LaneOnly.trans ?_ (State.goOn_laneOnly i _)
    dsimp only
    split
    · split
      · exact LaneOnly.trans (by rfl) (State.commit_laneOnly i _ _)
      · exact LaneOnly.trans (by rfl) (State.toOverflow_laneOnly i _ _)
    · refine LaneOnly.trans ?_ (State.recordResult_laneOnly i r _)
      split
      · exact LaneOnly.trans (by rfl) (State.commit_laneOnly i _ _)
      · exact LaneOnly.trans (by rfl) (State.toOverflow_laneOnly i _ _)

theorem State.jam_laneOnly (i : Fin 12) (s : State) : LaneOnly s (s.jam i) := by
  unfold State.jam
  split
  · rfl
  · split
    · rfl
    · exact LaneOnly.trans (by rfl) (State.recordResult_laneOnly i _ _)

theorem State.reportThermal_laneOnly (i : Fin 12) (c : Thermal) (s : State) :
    LaneOnly s (s.reportThermal i c) := by
  unfold State.reportThermal
  split
  · rfl
  · dsimp only
    split
    · exact LaneOnly.trans (by rfl) (State.changeLane_laneOnly i _ _)
    · exact LaneOnly.trans (by rfl) (State.changeLane_laneOnly i _ _)
    · rfl
    · exact LaneOnly.trans (by rfl) (State.returnTo_laneOnly i _ _)
    · rfl

theorem State.binOut_laneOnly (i : Fin 12) (s : State) : LaneOnly s (s.binOut i) := by
  unfold State.binOut
  dsimp only
  split <;> first | exact LaneOnly.trans (by rfl) (State.enterOut_laneOnly i _ _) | rfl

theorem State.binIn_laneOnly (i : Fin 12) (s : State) : LaneOnly s (s.binIn i) := by
  have h : LaneOnly s ((s.setLane i { s.lanes[i] with binPresent := true, committed := 0 }).testNearlyFull i) :=
    LaneOnly.trans (by rfl) (State.testNearlyFull_laneOnly i _)
  unfold State.binIn
  dsimp only
  refine h.trans ?_
  split
  · split
    · exact LaneOnly.trans (by rfl) (State.changeLane_laneOnly i _ _)
    · exact LaneOnly.trans (by rfl) (State.returnTo_laneOnly i _ _)
  all_goals rfl

theorem State.reportBin_laneOnly (i : Fin 12) (present : Bool) (s : State) :
    LaneOnly s (s.reportBin i present) := by
  unfold State.reportBin
  split
  · exact State.binOut_laneOnly i s
  · exact State.binIn_laneOnly i s
  all_goals rfl

theorem State.considerWaiting_laneOnly (i : Fin 12) (waited : Bool) (s : State) :
    LaneOnly s (s.considerWaiting i waited) := by
  unfold State.considerWaiting
  split
  · exact State.consider_laneOnly s
  · rfl

theorem State.reportJam_laneOnly (i : Fin 12) (jam : Bool) (s : State) :
    LaneOnly s (s.reportJam i jam) := by
  unfold State.reportJam
  split
  · exact State.jam_laneOnly i s
  · rfl

/-- All that a LANE REPORT may change (R107). -/
theorem State.report_laneOnly (i : Fin 12) (r : LaneReport) (s : State) :
    LaneOnly s (s.report i r) :=
  (((State.reportThermal_laneOnly i _ s).trans (State.reportBin_laneOnly i _ _)).trans
    (State.reportJam_laneOnly i _ _)).trans (State.considerWaiting_laneOnly i _ _)

/-! ## Session operations -/

/-- `t` differs from `s` at most in the front port, the serial, the sessions and their order of
AWAIT_PRINT, the Voucher Unit and the corner totals. -/
def SessionOnly (s t : State) : Prop :=
  t = { s with serial := t.serial, front := t.front, sessions := t.sessions, awaiting := t.awaiting,
               voucherQueue := t.voucherQueue, transfer := t.transfer, tagCounter := t.tagCounter,
               totals := t.totals }

theorem SessionOnly.refl (s : State) : SessionOnly s s := rfl

theorem SessionOnly.trans {s t u : State} (h : SessionOnly s t) (k : SessionOnly t u) :
    SessionOnly s u := by
  unfold SessionOnly at *
  rw [k, h]

theorem SessionOnly.placeAll {fs : List Frame} (h : ∀ f ∈ fs, f.link = .front) (s : State) :
    SessionOnly s (s.placeAll fs) := by
  induction fs generalizing s with
  | nil => rfl
  | cons f fs ih =>
    rw [State.placeAll_cons]
    refine SessionOnly.trans ?_ (ih (fun g hg => h g (by simp [hg])) _)
    have hf : f.link = .front := h f (by simp)
    simp only [SessionOnly, State.place, hf]

theorem State.sendResult_sessionOnly (x : Session) (s : State) : SessionOnly s (s.sendResult x) := rfl

theorem State.deliver_sessionOnly (n : Nat) (s : State) : SessionOnly s (s.deliver n) := by
  unfold State.deliver
  split
  · rfl
  · split <;> rfl

theorem State.deliverAwaiting_sessionOnly (st : Fin 8) (s : State) :
    SessionOnly s (s.deliverAwaiting st) := by
  have h : ∀ (xs : List Session) (t : State), SessionOnly t
      (xs.foldl (fun t x => if x.station = st then t.sendResult x else t) t) := by
    intro xs
    induction xs with
    | nil => intro t; rfl
    | cons x xs ih =>
      intro t
      rw [List.foldl_cons]
      refine SessionOnly.trans ?_ (ih _)
      split
      · exact State.sendResult_sessionOnly x t
      · rfl
  exact h _ s

theorem State.enterRequest_sessionOnly (n tag : Nat) (s : State) :
    SessionOnly s (s.enterRequest n tag) := by
  unfold State.enterRequest
  split <;> rfl

theorem State.beginRequest_sessionOnly (n : Nat) (s : State) : SessionOnly s (s.beginRequest n) := by
  unfold State.beginRequest
  exact SessionOnly.trans (by rfl) (State.enterRequest_sessionOnly n _ _)

theorem State.startTransfer_sessionOnly (s : State) : SessionOnly s s.startTransfer := by
  unfold State.startTransfer
  split
  · exact State.beginRequest_sessionOnly _ s
  · rfl

theorem State.completeClose_sessionOnly (n : Nat) (s : State) : SessionOnly s (s.completeClose n) := by
  unfold State.completeClose
  split
  · rfl
  · split
    · exact SessionOnly.trans (by rfl) (State.deliver_sessionOnly n _)
    · split
      · exact SessionOnly.trans (by rfl) (State.deliver_sessionOnly n _)
      all_goals exact SessionOnly.trans (by rfl) (State.startTransfer_sessionOnly _)

theorem State.settle_sessionOnly (n : Nat) (s : State) : SessionOnly s (s.settle n) := by
  unfold State.settle
  split
  · split
    · exact State.completeClose_sessionOnly n s
    · rfl
  · rfl

theorem State.closeSession_sessionOnly (n : Nat) (d : Disposition) (s : State) :
    SessionOnly s (s.closeSession n d) := by
  unfold State.closeSession
  exact SessionOnly.trans (by rfl) (State.settle_sessionOnly n _)

theorem lineFrames_front (n tag : Nat) (ls : List VoucherLine) :
    ∀ f ∈ lineFrames n tag ls, f.link = .front := by
  intro f hf
  unfold lineFrames at hf
  obtain ⟨k, _, rfl⟩ := List.mem_map.mp hf
  rfl

theorem State.enterData_sessionOnly (n tag : Nat) (s : State) : SessionOnly s (s.enterData n tag) := by
  unfold State.enterData
  split
  · rfl
  · exact (SessionOnly.placeAll (lineFrames_front _ _ _) s).trans rfl

theorem State.stopTransfer_sessionOnly (c : StopCause) (s : State) :
    SessionOnly s (s.stopTransfer c) := by
  unfold State.stopTransfer
  split
  · split <;> rfl
  all_goals rfl

theorem State.endTransfer_sessionOnly (n : Nat) (f : Session → Session) (g : Totals → Totals)
    (s : State) : SessionOnly s (s.endTransfer n f g) := by
  have h : SessionOnly s (((s.onSession n f).onTotals g).deliver n) :=
    SessionOnly.trans (t := (s.onSession n f).onTotals g) rfl (State.deliver_sessionOnly n _)
  unfold State.endTransfer
  dsimp only
  exact (h.trans (t := ((s.onSession n f).onTotals g).deliver n)
    (u := { ((s.onSession n f).onTotals g).deliver n with
      voucherQueue := (((s.onSession n f).onTotals g).deliver n).voucherQueue.tail,
      transfer := .idle }) rfl).trans (State.startTransfer_sessionOnly _)

/-! ## Evaluations -/

/-- `t` differs from `s` at most in what an evaluation may change: the fields of `LaneOnly` and
`SessionOnly`, the Referral List, the held counts, the last numbers and handle, and the counters. -/
def EvalOnly (s t : State) : Prop :=
  t = { s with serial := t.serial, front := t.front, back := t.back, lanes := t.lanes,
               pipes := t.pipes, strokes := t.strokes, pointer := t.pointer,
               overflow := t.overflow, totals := t.totals, sessions := t.sessions,
               awaiting := t.awaiting, voucherQueue := t.voucherQueue, transfer := t.transfer,
               tagCounter := t.tagCounter, heldCounts := t.heldCounts, lastHandle := t.lastHandle,
               referrals := t.referrals, lastReferral := t.lastReferral,
               lastSession := t.lastSession, rows := t.rows, returned := t.returned }

theorem EvalOnly.refl (s : State) : EvalOnly s s := rfl

theorem EvalOnly.trans {s t u : State} (h : EvalOnly s t) (k : EvalOnly t u) : EvalOnly s u := by
  unfold EvalOnly at *
  rw [k, h]

theorem LaneOnly.eval {s t : State} (h : LaneOnly s t) : EvalOnly s t := by
  unfold LaneOnly EvalOnly at *
  rw [h]

theorem SessionOnly.eval {s t : State} (h : SessionOnly s t) : EvalOnly s t := by
  unfold SessionOnly EvalOnly at *
  rw [h]

theorem State.returnItem_evalOnly (st : Fin 8) (seq : Nat) (r : ReturnReason) (s : State) :
    EvalOnly s (s.returnItem st seq r) := rfl

theorem State.hold_evalOnly (w : Waiting) (s : State) : EvalOnly s (s.hold w) := rfl

theorem State.unhold_evalOnly (w : Waiting) (s : State) : EvalOnly s (s.unhold w) := rfl

theorem State.releaseItem_evalOnly (w : Waiting) (s : State) : EvalOnly s (s.releaseItem w) :=
  EvalOnly.trans (State.unhold_evalOnly w s) (State.settle_sessionOnly _ _).eval

theorem State.makeReferral_evalOnly (k : ReferralKind) (n : Nat) (w : Waiting) (s : State) :
    EvalOnly s (s.makeReferral k n w) := rfl

theorem State.joinMiss_evalOnly (n : Nat) (w : Waiting) (s : State) :
    EvalOnly s (s.joinMiss n w) := rfl

theorem State.requestMiss_evalOnly (n : Nat) (w : Waiting) (s : State) :
    EvalOnly s (s.requestMiss n w) := by
  unfold State.requestMiss
  split
  · split <;> rfl
  · split <;> rfl

theorem State.requestDecision_evalOnly (n : Nat) (e : Entry) (w : Waiting) (s : State) :
    EvalOnly s (s.requestDecision n e w) := by
  unfold State.requestDecision
  split <;> rfl

theorem State.countCells_evalOnly (a : Accept) (own bottle : Nat) (s : State) :
    EvalOnly s (s.countCells a own bottle) := by
  unfold State.countCells
  dsimp only
  split
  · rfl
  · split
    · rfl
    · split <;> rfl

theorem State.countAccepted_evalOnly (a : Accept) (own bottle : Nat) (s : State) :
    EvalOnly s (s.countAccepted a own bottle) :=
  (State.countCells_evalOnly a own bottle s).trans rfl

theorem State.sessionAdd_evalOnly (a : Accept) (x : Session) (s : State) :
    EvalOnly s (s.sessionAdd a x) := rfl

theorem State.accept_evalOnly (a : Accept) (x : Session) (i : Fin 12) (f : Nat) (s : State) :
    EvalOnly s (s.accept a x i f) := by
  unfold State.accept
  exact ((EvalOnly.trans (by rfl) (State.appendOrder_laneOnly i _ _).eval).trans
    (State.countAccepted_evalOnly a _ _ _)).trans rfl

theorem State.fromCap_evalOnly (a : Accept) (s : State) : EvalOnly s (s.fromCap a) := by
  unfold State.fromCap
  split
  · rfl
  · split
    · rfl
    · split
      · rfl
      · exact (State.reserve_laneOnly _ _ s).eval.trans (State.accept_evalOnly _ _ _ _ _)

theorem State.fromRights_evalOnly (q : Asking) (n : Nat) (e : Entry) (w : Waiting) (s : State) :
    EvalOnly s (s.fromRights q n e w) := by
  unfold State.fromRights
  split
  · rfl
  · rfl
  · split
    · exact State.requestDecision_evalOnly n e w s
    · rfl
  · exact State.fromCap_evalOnly _ s

theorem State.fromLookup_evalOnly (q : Asking) (n : Nat) (w : Waiting) (s : State) :
    EvalOnly s (s.fromLookup q n w) := by
  unfold State.fromLookup
  split
  · split
    · exact State.requestMiss_evalOnly n w s
    · rfl
  · split
    · rfl
    · exact State.fromRights_evalOnly _ _ _ _ s

theorem State.fromCode_evalOnly (st : Fin 8) (n : Nat) (r : Report) (s : State) :
    EvalOnly s (s.fromCode st n r) := by
  unfold State.fromCode
  split
  · rfl
  · exact State.fromLookup_evalOnly _ _ _ s

theorem State.fromSession_evalOnly (st : Fin 8) (r : Report) (s : State) :
    EvalOnly s (s.fromSession st r) := by
  unfold State.fromSession
  split
  · split
    · exact EvalOnly.trans (by rfl) (State.fromCode_evalOnly st _ r _)
    · rfl
  · split
    · exact EvalOnly.trans (by rfl) (State.fromCode_evalOnly st _ r _)
    · rfl

/-- What an evaluation can change (R27). -/
theorem State.evaluate_evalOnly (st : Fin 8) (r : Report) (s : State) :
    EvalOnly s (s.evaluate st r) := by
  unfold State.evaluate
  split
  · split
    · rfl
    · split
      · rfl
      · exact State.fromSession_evalOnly st r s
  · split <;> rfl
  all_goals rfl

@[simp] theorem State.endItems_nil (v : Waiting → State → State) (s : State) :
    s.endItems v [] = s := rfl

@[simp] theorem State.endItems_cons (v : Waiting → State → State) (w : Waiting) (ws : List Waiting)
    (s : State) : s.endItems v (w :: ws) = ((v w s).releaseItem w).endItems v ws := rfl

/-- The end of a close leaves the station counts. -/
@[simp] theorem State.settle_heldCounts (n : Nat) (s : State) :
    (s.settle n).heldCounts = s.heldCounts := by
  rw [State.settle_sessionOnly n s]

/-- A released item takes one from its station's count of held items (R25). -/
@[simp] theorem State.releaseItem_heldCounts (w : Waiting) (s : State) :
    (s.releaseItem w).heldCounts =
      s.heldCounts.set w.station.val (s.heldCounts[w.station] - 1) w.station.isLt := by
  unfold State.releaseItem
  rw [State.settle_heldCounts]
  rfl

theorem State.endItems_evalOnly (v : Waiting → State → State) (hv : ∀ w s, EvalOnly s (v w s))
    (ws : List Waiting) (s : State) : EvalOnly s (s.endItems v ws) := by
  unfold State.endItems
  induction ws generalizing s with
  | nil => rfl
  | cons w ws ih =>
    rw [List.foldl_cons]
    exact ((hv w s).trans (State.releaseItem_evalOnly w _)).trans (ih _)

end Sys2Proof.Machine
end

