-- ==== Sys2Proof/Laws/Live.lean ====
section
/-! SUPPORT. The smallest facts that every proof about a command begins with: `live` with the RESET line
released and asserted, and the records that numbers of stations, lanes and slots name. -/

namespace Sys2Proof.Machine

theorem live_released {f : State → State} {s : State} (h : s.resetAsserted = false) :
    live f s = .next (f s) := by simp [live, h]

theorem live_asserted {f : State → State} {s : State} (h : s.resetAsserted = true) :
    live f s = .next s := by simp [live, h]

@[simp] theorem stationIx_stationNo (i : Fin 8) : stationIx (stationNo i) = some i := by
  decide +revert

@[simp] theorem laneIx_laneNo (i : Fin 12) : laneIx (laneNo i) = some i := by decide +revert

@[simp] theorem slotIx_succ (i : Fin 4) : slotIx (i.val + 1) = some i := by decide +revert

theorem stationIx_none {n : Nat} (h : n = 0 ∨ 8 < n) : stationIx n = none := by
  simp only [stationIx]; rw [dif_neg (by omega)]

theorem laneIx_none {n : Nat} (h : n = 0 ∨ 12 < n) : laneIx n = none := by
  simp only [laneIx]; rw [dif_neg (by omega)]

theorem slotIx_none {n : Nat} (h : n = 0 ∨ 4 < n) : slotIx n = none := by
  simp only [slotIx]; rw [dif_neg (by omega)]

@[simp] theorem laneNo_ne_zero (i : Fin 12) : laneNo i ≠ 0 := by simp [laneNo]

/-- A gap of more than 1 ms loses the bytes so far (R171). -/
theorem Port.dropGap_passed {now : Nat} {p : Port} (h : p.lastByte + 1 < now) :
    p.dropGap now = { p with incoming := [] } := by simp [Port.dropGap, Port.gapPassed, h]

/-- Without such a gap the bytes stay (R171). -/
theorem Port.dropGap_early {now : Nat} {p : Port} (h : now ≤ p.lastByte + 1) : p.dropGap now = p := by
  simp [Port.dropGap, Port.gapPassed, Nat.not_lt.mpr h]

@[simp] theorem Port.carry_queue (now : Nat) (p : Port) : (p.carry now).queue = p.queue := rfl
@[simp] theorem Port.carry_held (now : Nat) (p : Port) : (p.carry now).held = p.held := rfl
@[simp] theorem Port.carry_transmitter (now : Nat) (p : Port) :
    (p.carry now).transmitter = p.transmitter := rfl
@[simp] theorem Port.carry_incoming (now : Nat) (p : Port) : (p.carry now).incoming = p.incoming := rfl
@[simp] theorem Port.carry_lastByte (now : Nat) (p : Port) : (p.carry now).lastByte = p.lastByte := rfl
@[simp] theorem Port.carry_idle (now : Nat) (p : Port) : (p.carry now).idle = false := rfl
@[simp] theorem Port.carry_lastLine (now : Nat) (p : Port) : (p.carry now).lastLine = now := rfl

/-- A line that was told to have fallen idle is idle (R171). -/
theorem Port.lineIdle_of_idle {now : Nat} {p : Port} (h : p.idle = true) : p.lineIdle now = true := by
  simp [Port.lineIdle, h]

/-- A line with a byte on it within the last ms, or with its port sending, is not idle (R171). -/
theorem Port.lineIdle_busy {now : Nat} {p : Port} (h : p.idle = false)
    (k : p.transmitter = .sending ∨ now ≤ p.lastLine + 1) : p.lineIdle now = false := by
  rcases k with k | k
  · simp [Port.lineIdle, h, k]
  · simp [Port.lineIdle, h, Nat.not_lt.mpr k]

/-- Four bytes and more are a complete frame once the payload and two check bytes stand behind them
(R171). -/
theorem isComplete_cons (d src kind len : Byte) (rest : List Byte) :
    isComplete (d :: src :: kind :: len :: rest) = decide (len.toNat + 2 ≤ rest.length) := by
  simp only [isComplete, List.length_cons, decide_eq_decide]
  omega

end Sys2Proof.Machine
end

