-- ==== Sys2Proof/Laws/Numbers.lean ====
section
/-! SUPPORT. Numbers given in turn (R26, R49, R62): while fewer than `top` numbers are in use,
`freshNumber` gives one from 1 to `top` that is not in use. -/

namespace Sys2Proof.Machine

/-- The number `k` places after the first in turn, `m` below `top` standing for the last number. -/
def turnNumber (top m k : Nat) : Nat := (m + k) % top + 1

theorem turnNumber_next (top m k : Nat) (h : 0 < top) :
    nextNumber top (turnNumber top m k) = turnNumber top m (k + 1) := by
  unfold nextNumber turnNumber
  have hlt : (m + k) % top < top := Nat.mod_lt _ h
  rw [show m + (k + 1) = (m + k) + 1 by omega, Nat.add_mod (m + k) 1 top]
  by_cases h1 : top = 1
  · subst h1; simp; omega
  · rw [Nat.mod_eq_of_lt (show 1 < top by omega)]
    by_cases h2 : (m + k) % top + 1 < top
    · rw [if_pos h2, Nat.mod_eq_of_lt h2]
    · rw [if_neg h2, show (m + k) % top + 1 = top by omega, Nat.mod_self]

theorem turnNumber_zero (top last : Nat) (_ : 0 < top) :
    nextNumber top last = turnNumber top (if last < top then last else 0) 0 := by
  unfold nextNumber turnNumber
  split
  · next hl => rw [show last + 0 = last from rfl, Nat.mod_eq_of_lt hl]
  · simp

/-- What the search finds: the first number in turn that is not in use, within the tries. -/
theorem firstFree_turn (top : Nat) (used : List Nat) (h : 0 < top) (m : Nat) :
    ∀ (fuel k last : Nat), nextNumber top last = turnNumber top m k →
      ∃ j, j ≤ fuel ∧ firstFree top used fuel last = turnNumber top m (k + j) ∧
        (∀ i < j, turnNumber top m (k + i) ∈ used) ∧
        (turnNumber top m (k + j) ∉ used ∨ j = fuel) := by
  intro fuel
  induction fuel with
  | zero =>
    intro k last hl
    exact ⟨0, Nat.le_refl 0, hl, fun i hi => absurd hi (Nat.not_lt_zero i), Or.inr rfl⟩
  | succ fuel ih =>
    intro k last hl
    by_cases hu : turnNumber top m k ∈ used
    · obtain ⟨j, hj, heq, hall, hend⟩ := ih (k + 1) (turnNumber top m k) (turnNumber_next top m k h)
      refine ⟨j + 1, by omega, ?_, ?_, ?_⟩
      · have : firstFree top used (fuel + 1) last = firstFree top used fuel (turnNumber top m k) := by
          rw [firstFree, hl]; simp [hu]
        rw [this, heq, show k + 1 + j = k + (j + 1) by omega]
      · intro i hi
        cases i with
        | zero => exact hu
        | succ i => rw [show k + (i + 1) = k + 1 + i by omega]; exact hall i (by omega)
      · rw [show k + (j + 1) = k + 1 + j by omega]
        rcases hend with he | he
        · exact Or.inl he
        · exact Or.inr (by omega)
    · refine ⟨0, Nat.zero_le _, ?_, fun i hi => absurd hi (Nat.not_lt_zero i), Or.inl hu⟩
      rw [firstFree, hl]
      simp [hu]

theorem turnNumber_inj (top m i j : Nat) (hi : i < top) (hj : j < top)
    (h : turnNumber top m i = turnNumber top m j) : i = j := by
  unfold turnNumber at h
  have h' : (m + i) % top = (m + j) % top := by omega
  have := Nat.ModEq.add_left_cancel' m (show m + i ≡ m + j [MOD top] from h')
  exact Nat.ModEq.eq_of_lt_of_lt this hi hj

/-- The number given is not in use while fewer than `top` are (R26, R49, R62). -/
theorem freshNumber_not_mem (top : Nat) (used : List Nat) (last : Nat) (h : used.length < top) :
    freshNumber top used last ∉ used := by
  have h0 : 0 < top := by omega
  obtain ⟨j, hj, heq, hall, hend⟩ := firstFree_turn top used h0 _ used.length 0 last
    (turnNumber_zero top last h0)
  unfold freshNumber
  rw [heq]
  rcases hend with he | he
  · exact he
  · intro hmem
    subst he
    have hsub : (Finset.range (used.length + 1)).image
        (turnNumber top (if last < top then last else 0)) ⊆ used.toFinset := by
      intro x hx
      obtain ⟨i, hi, rfl⟩ := Finset.mem_image.mp hx
      rw [List.mem_toFinset]
      rcases Nat.lt_or_eq_of_le (Nat.lt_succ_iff.mp (Finset.mem_range.mp hi)) with hlt | heq'
      · have := hall i hlt; rwa [Nat.zero_add] at this
      · rw [heq']; rwa [Nat.zero_add] at hmem
    have hcard := Finset.card_le_card hsub
    rw [Finset.card_image_of_injOn, Finset.card_range] at hcard
    · have := List.toFinset_card_le used; omega
    · intro a ha b hb hab
      have ha' := Finset.mem_range.mp (Finset.mem_coe.mp ha)
      have hb' := Finset.mem_range.mp (Finset.mem_coe.mp hb)
      exact turnNumber_inj top _ a b (by omega) (by omega) hab

/-- The number given lies from 1 to `top`. -/
theorem freshNumber_range (top : Nat) (used : List Nat) (last : Nat) (h : 0 < top) :
    1 ≤ freshNumber top used last ∧ freshNumber top used last ≤ top := by
  obtain ⟨j, _, heq, _, _⟩ := firstFree_turn top used h _ used.length 0 last
    (turnNumber_zero top last h)
  unfold freshNumber
  rw [heq]
  unfold turnNumber
  have := Nat.mod_lt (((if last < top then last else 0) + (0 + j))) h
  omega

end Sys2Proof.Machine
end

