-- ==== Sys2Proof/Laws/Overflow.lean ====
section
/-! SUPPORT. What orders that go to overflow leave in the overflow record and the corner totals, and the
notices that this calls for, said once (R113, R114, R152). -/

namespace Sys2Proof.Machine

@[simp] theorem Overflow.after_nil (capacity : Nat) (o : Overflow) : o.after [] capacity = o := rfl

@[simp] theorem Totals.overflowed_nil (t : Totals) : t.overflowed [] = t := rfl

/-- Orders go to overflow one batch after the other: the counters saturate and the mark stays set. -/
theorem Overflow.after_append (a b : List Order) (capacity : Nat) (o : Overflow) :
    o.after (a ++ b) capacity = (o.after a capacity).after b capacity := by
  cases a with
  | nil => rfl
  | cons x xs =>
    cases b with
    | nil => simp
    | cons y ys =>
      simp only [Overflow.after, List.cons_append, reduceCtorEq, if_false, List.map_append,
        List.map_cons, List.sum_append, List.sum_cons, List.length_append, List.length_cons,
        Overflow.mk.injEq]
      refine ⟨by omega, by omega, ?_⟩
      cases o.high <;> simp only [Bool.true_or, Bool.false_or, ← Bool.decide_or, decide_eq_decide]
      omega

theorem Totals.overflowed_append (a b : List Order) (t : Totals) :
    t.overflowed (a ++ b) = (t.overflowed a).overflowed b := by
  cases a with
  | nil => rfl
  | cons x xs =>
    cases b with
    | nil => simp
    | cons y ys =>
      simp only [Totals.overflowed, List.cons_append, reduceCtorEq, if_false, List.map_append,
        List.map_cons, List.sum_append, List.sum_cons, List.length_append, List.length_cons,
        Totals.mk.injEq, true_and]
      omega

/-- The overflow record after one order. -/
theorem State.overflowOrder_overflow (o : Order) (s : State) :
    (s.overflowOrder o).overflow = s.overflow.after [o] s.params.overflowCapacity := by
  rcases hh : s.overflow.high <;>
    by_cases h : s.params.overflowCapacity < min (s.overflow.fill + o.fill) 99999999 <;>
    simp [State.overflowOrder, State.testOverflowHigh, Overflow.after, riseCount, hh, h,
      Config.maxCount, State.notify_overflow]

/-- The corner totals after one order. -/
theorem State.overflowOrder_totals (o : Order) (s : State) :
    (s.overflowOrder o).totals = s.totals.overflowed [o] := by
  unfold State.overflowOrder State.testOverflowHigh
  split <;> rfl

/-- No change of the overflow record calls for no notice. -/
theorem FillNotices.refl (o : Overflow) : FillNotices o o [] := by
  refine ⟨by simp, ?_⟩
  cases o.high <;> simp

@[simp] theorem Drops_nil : Drops [] := by simp [Drops]

theorem Drops_append {a b : List Frame} : Drops (a ++ b) ↔ Drops a ∧ Drops b := by
  simp [Drops, or_imp, forall_and]

theorem lastOfDrain_iff (i : Fin 12) (s : State) :
    lastOfDrain i s = true ↔
      (s.lanes[i]).state = .draining ∧ (s.pipes[i]).staged = none ∧ (s.pipes[i]).queue = [] := by
  simp [lastOfDrain, and_assoc]

end Sys2Proof.Machine
end

