-- ==== Sys2Proof/Tests/Slice0.lean ====
section
/-! SUPPORT. Tests: ill-formed commands are refused by the check, bytes and frames are coded as the
manual says, and every statement has states and operands that meet its hypotheses (`witness_…`). -/

namespace Sys2Proof.Tests

-- One theorem after another: each of these waits for the kernel, and many waiting at once take memory.
set_option Elab.async false

open Sys2Proof Sys2Proof.Machine

/-! ## Well-formed commands -/

def goodEntry : RawEntry :=
  { number := 400123456783, span := 0, kind := 0, material := 0, depositClass := 1, scheme := 12,
    producer := 340, own := 1, partner := 0, foreign := 0, check := 0, nominalMass := 24,
    massTolerance := 3, residue := 20, nominalHeight := 230, heightTolerance := 4, volume := 500,
    slots := 0, bottleNumber := 0 }

theorem test_wf_accepts :
    (Instr.loadArticle 0 goodEntry).wf = true ∧ (Instr.announce 8 [0]).wf = true ∧
    (Instr.voucherStatus 14 []).wf = true ∧ (Instr.laneReport 12 [1, 0, 0]).wf = true ∧
    (Instr.setParameter 0 9 65535).wf = true ∧ (Instr.hardwareReset).wf = true := by decide

theorem test_wf_refuses_entry_fields :
    ({ goodEntry with number := 2 ^ 48 } : RawEntry).wf = false ∧
    ({ goodEntry with span := 256 } : RawEntry).wf = false ∧
    ({ goodEntry with kind := 256 } : RawEntry).wf = false ∧
    ({ goodEntry with material := 256 } : RawEntry).wf = false ∧
    ({ goodEntry with depositClass := 256 } : RawEntry).wf = false ∧
    ({ goodEntry with scheme := 256 } : RawEntry).wf = false ∧
    ({ goodEntry with producer := 65536 } : RawEntry).wf = false ∧
    ({ goodEntry with own := 256 } : RawEntry).wf = false ∧
    ({ goodEntry with partner := 256 } : RawEntry).wf = false ∧
    ({ goodEntry with foreign := 256 } : RawEntry).wf = false ∧
    ({ goodEntry with check := 256 } : RawEntry).wf = false ∧
    ({ goodEntry with nominalMass := 65536 } : RawEntry).wf = false ∧
    ({ goodEntry with massTolerance := 65536 } : RawEntry).wf = false ∧
    ({ goodEntry with residue := 65536 } : RawEntry).wf = false ∧
    ({ goodEntry with nominalHeight := 65536 } : RawEntry).wf = false ∧
    ({ goodEntry with heightTolerance := 256 } : RawEntry).wf = false ∧
    ({ goodEntry with volume := 65536 } : RawEntry).wf = false ∧
    ({ goodEntry with slots := 256 } : RawEntry).wf = false ∧
    ({ goodEntry with bottleNumber := 2 ^ 48 } : RawEntry).wf = false := by decide

theorem test_wf_refuses_frames :
    (Instr.announce 9 [0]).wf = false ∧ (Instr.announce 1 (List.replicate 65 0)).wf = false ∧
    (Instr.itemReport 0 []).wf = false ∧ (Instr.itemWithdraw 14 []).wf = false ∧
    (Instr.sessionClose 9 []).wf = false ∧ (Instr.requestAccepted 9 []).wf = false ∧
    (Instr.voucherStatus 0 []).wf = false ∧ (Instr.dropDone 13 []).wf = false ∧
    (Instr.laneReport 0 []).wf = false ∧ (Instr.silenceExpiry 9).wf = false ∧
    (Instr.idleExpiry 0).wf = false ∧ (Instr.referralExpiry 256).wf = false ∧
    (Instr.dropExpiry 13).wf = false := by decide

theorem test_wf_refuses_commands :
    (Instr.commandUnknown 0 256).wf = false ∧ (Instr.removeArticle 0 (2 ^ 48) 0).wf = false ∧
    (Instr.readArticleKey 0 0 256).wf = false ∧ (Instr.readArticleLookup 0 (2 ^ 48)).wf = false ∧
    (Instr.loadKey 0 1 256 0).wf = false ∧ (Instr.clearKey 0 256).wf = false ∧
    (Instr.setClassValue 0 1 65536).wf = false ∧
    (Instr.referralAnswerEntry 0 256 goodEntry).wf = false ∧
    (Instr.referralAnswerDecide 0 1 256 0 0).wf = false ∧
    (Instr.readSessionRecord 0 65536).wf = false ∧ (Instr.discardSession 0 65536).wf = false ∧
    (Instr.readSessionLines 0 1 256).wf = false ∧
    (Instr.voucherControlResume 0 65536).wf = false ∧
    (Instr.voucherControlRestart 0 65536).wf = false ∧
    (Instr.voucherControlCancel 0 65536).wf = false ∧
    (Instr.voucherControlAbort 0 65536).wf = false ∧
    (Instr.setLane 0 1 0 0 65536 1 50).wf = false ∧ (Instr.laneGoOpen 0 256).wf = false ∧
    (Instr.laneGoDrain 0 256).wf = false ∧ (Instr.laneGoClearFault 0 256).wf = false ∧
    (Instr.maskLane 0 1 256).wf = false ∧ (Instr.readStatusStation 0 256).wf = false ∧
    (Instr.readStatusLane 0 256).wf = false ∧ (Instr.readCounters 0 256).wf = false ∧
    (Instr.readAndClear 0 256).wf = false ∧ (Instr.stationGoListen 0 256).wf = false ∧
    (Instr.stationGoOperate 0 256).wf = false ∧ (Instr.stationGoPause 0 256).wf = false ∧
    (Instr.stationGoOff 0 256).wf = false ∧ (Instr.setParameter 0 7 1).wf = false ∧
    (Instr.setParameter 0 1 (2 ^ 24)).wf = false ∧
    (Instr.setParameterStroke 0 .budget 256).wf = false ∧
    (Instr.setParameterStroke 0 .window 65536).wf = false := by decide

/-! ## Bytes and frames -/

theorem test_numbers_most_significant_first :
    be 2 0x5653 = [0x56, 0x53] ∧ unbe [0x56, 0x53] = 0x5653 ∧ optBe 2 none = [0xFF, 0xFF] ∧
    fields [1, 2] [1, 2, 3] = some [1, 0x0203] ∧ fields [1, 2] [1, 2] = none ∧
    fields [1] [1, 2] = none := by decide

/-- The check of the ASCII digits 1 to 9 (R170). -/
theorem test_crc_of_nine_digits :
    crc [0x31, 0x32, 0x33, 0x34, 0x35, 0x36, 0x37, 0x38, 0x39] = 0x29B1 := by decide +kernel

/-- A DROP GO for lane 3 on the back link is 3, 0, 0x42, 2, the handle, and the check (R170, R181). -/
theorem test_drop_go_bytes :
    (Frame.dropGo 3 258).bytes = [3, 0, 0x42, 2, 1, 2] ++ be 2 (crc [3, 0, 0x42, 2, 1, 2]) := by
  decide +kernel

/-- The bytes of an ANNOUNCE of station 2 arrive and stand as its command at the end of the queue. -/
theorem test_bytes_become_a_command :
    let body : List Byte := [0, 2, 0x01, 1, 1]
    ((body ++ be 2 (crc body)).foldl (fun s b => s.byteArrives .front b) State.reset).pending =
      [.announce 2 [1]] := by decide +kernel

/-- A byte after a gap of more than 1 ms begins a new frame, whether or not the gap's own event has been
taken; the event taken late does not touch the new frame (R171). -/
theorem test_gap_begins_a_new_frame :
    let s := { State.reset.byteArrives .front 7 with now := 2 }
    (s.byteArrives .front 8).front.incoming = [8] ∧
    ({ s with now := 1 }.byteArrives .front 8).front.incoming = [7, 8] ∧
    ∃ t, exec (.frameGapTimeout .front) (s.byteArrives .front 8) = .next t ∧
      t.front.incoming = [8] := ⟨by decide, by decide, _, rfl, by decide⟩

/-- Bytes that follow a complete frame with no idle line between are not taken; after the line has fallen
idle, or after more than 1 ms without a byte, the next byte begins a frame (R171). -/
theorem test_frame_begins_after_an_idle_line :
    let good : List Byte := [0, 2, 0x01, 1, 1] ++ be 2 (crc [0, 2, 0x01, 1, 1])
    let feed := fun s : State => good.foldl (fun s b => s.byteArrives .front b) s
    let s := feed State.reset
    s.front.idle = false ∧ s.front.incoming = [] ∧ (feed s).pending.length = 1 ∧
    (feed s).front.incoming = [] ∧ (feed (s.lineFallsIdle .front)).pending.length = 2 ∧
    (feed { s with now := 1 }).pending.length = 1 ∧
    (feed { s with now := 2 }).pending.length = 2 := by decide +kernel

/-- The byte 0x52 on the line: start bit, the data bits with the least significant first, stop bit. -/
theorem test_line_of_a_byte :
    lineBits 0x52 = [false, false, true, false, false, true, false, true, false, true] ∧
    byteOfLine (lineBits 0x52) = some 0x52 ∧ (Frame.dropGo 3 258).micros = 320 := by decide +kernel

/-- A COMMAND with code 7 and no arguments is READ KEYS; with an argument it is unknown (R174, R175). -/
theorem test_command_codes :
    commandOf 9 7 [] = .readKeys 9 ∧ commandOf 9 7 [0] = .commandUnknown 9 7 ∧
    commandOf 9 25 [7, 3] = .setParameterStroke 9 .budget 3 ∧
    commandOf 9 24 [3, 5] = .stationGoOff 9 5 ∧ commandOf 9 200 [] = .commandUnknown 9 200 ∧
    commandOf 9 14 [2, 1, 0] = .voucherControlCancel 9 256 := by decide

/-! ## States of the tests -/

def pet : Entry :=
  { number := 400123456783, span := .exact, depositClass := 1, scheme := 12, producer := 340,
    own := ⟨true, false, false⟩, partner := ⟨false, false, false⟩,
    foreign := ⟨false, false, false⟩, check := .opened, nominalHeight := 230, heightTolerance := 4,
    body := .container .pet 24 3 20 500 }

def shop : Session :=
  { number := 1, station := 0, state := .opened, cap := 50000, credit := 0, accepted := 0,
    lines := [], held := 0, disposition := none, issueTag := none, voucherNumber := none,
    outcome := none, lastItem := 0, idleExpiry := some 0 }

def rich : Session := { shop with credit := 25, accepted := 1, lines := [⟨1, 1, 25⟩] }

def reportBytes : List Byte := be 1 7 ++ be 6 400123456783 ++ be 2 24 ++ be 2 230 ++ be 1 0

def seen : Report :=
  { seq := 7, number := some 400123456783, mass := some 24, height := 230, signature := some .pet,
    bottles := none }

def kept : Waiting := { station := 0, session := 1, report := seen, bottle := none, residue := false }

def miss : Referral :=
  { number := 1, kind := .miss, article := 400123456783, expiry := 0, waiting := [kept] }

def bulk (x : StationState) : Station :=
  { state := x, kind := some .bulk, attachCount := 0, attachKind := none, lastAnnounce := some 0,
    silenceExpiry := some 1500, lossCause := none, changed := false }

/-- Station 1 in a state. -/
def standing (x : StationState) : State := State.reset.setStation 0 (bulk x)

/-- Station 1 serves, with one session. -/
def serving (x : Session) : State := { standing .operating with sessions := [x], lastSession := 1 }

/-- Lane 1 takes PET. -/
def petLane : Lane := { Lane.reset with state := .opened, capacity := 100 }

def order : Order := { handle := 5, fill := 2, kind := .container, station := 0 }

def drop (jam : Bool) : Dropping := { order, jam, expiry := some 0, go := 3 }

/-- Lane 1 drops an order. -/
def dropping (jam : Bool) (last : Option DropResult) : State :=
  (State.reset.setLane 0 { petLane with reserved := 2 }).setPipe 0
    { Pipeline.reset with dropping := some (drop jam), last }

/-- Station 1 serves, the PET article is known, lane 1 is open and class 1 is worth 25. -/
def ready : State :=
  { (serving shop).setLane 0 petLane with
    articles := [pet], classValues := (Vector.replicate 16 0).set 1 25 }

/-- One item is held. -/
def holding : State :=
  { serving { shop with held := 1 } with
    referrals := [miss], lastReferral := 1, heldCounts := (Vector.replicate 8 0).set 0 1 }

/-- A transfer works for session 1. -/
def issuing (t : Transfer) : State :=
  { serving { rich with state := .issuing, disposition := some .voucher, issueTag := some 3 } with
    transfer := t, voucherQueue := [1], tagCounter := 3 }

/-- A state with something in every block. -/
def corner : State :=
  { (dropping false none).setStation 0 (bulk .operating) with
    pending := [.readKeys 0], articles := [pet], sessions := [{ rich with held := 1 }],
    referrals := [miss], heldCounts := (Vector.replicate 8 0).set 0 1, strokes := [⟨0, 1, 0⟩],
    voucherQueue := [], lastSession := 1 }

/-- 2048 entries. -/
def full : State :=
  { State.reset with articles := (List.range 2048).map fun k => { pet with number := k } }

/-! ## Witnesses: machine, reset, links -/

theorem witness_StepRunsTheFrontCommand : corner.pending = .readKeys 0 :: [] := by decide

/-- Every timer has run out at the next ms. -/
def late : State :=
  { (dropping false none).setStation 0 { bulk .operating with silenceExpiry := some 1 } with
    sessions := [{ shop with idleExpiry := some 1 }], referrals := [miss],
    transfer := .running .request 1 1 (some 1) 1,
    strokes := [{ time := 0, weight := 1, lane := 0 }],
    params := { Parameters.reset with window := 1 } }

theorem witness_IdleStepIsOneMillisecond :
    late.pending = [] ∧ late.resetAsserted = false ∧ late.tick.pending.length = 6 ∧
    ({ State.reset with resetAsserted := true } : State).pending = [] := by decide +kernel

theorem witness_ResetLineStopsAndResetsThePart :
    let s := { corner with resetAsserted := true, feedLine := true }
    s.resetAsserted = true ∧ s.released.feedFault = true ∧ corner.resetAsserted = false := by decide

theorem witness_FeedFaultFollowsTheLine :
    corner.resetAsserted = false ∧ corner.feedLine = false ∧
    ({ corner with feedLine := true } : State).feedLine = true := by decide

def sendingPort (f : Frame) : Port :=
  { Port.reset with queue := [⟨3, f⟩], transmitter := .sending }

theorem witness_PortSendsAndBacksOff :
    let s := { corner with front := { Port.reset with queue := [⟨1, .statusQuery 1 1⟩] } }
    let t := { corner with back := sendingPort (.dropGo 1 5) }
    let u := { corner with back := { Port.reset with transmitter := .backoff 200 } }
    (s.port .front).transmitter = .idle ∧ (s.port .front).queue ≠ [] ∧
    (t.port .back).transmitter = .sending ∧ (u.port .back).transmitter = .backoff 200 := by decide

theorem witness_SentFrameLeavesAndStartsItsTimer :
    let s := { issuing (.running .status 1 3 none 3) with front := sendingPort (.statusQuery 3 1) }
    let t := { corner with back := sendingPort (.dropGo (laneNo 0) 5) }
    let u := { State.reset with front := sendingPort (.notice (.feedFault true 0)) }
    s.front.queue = [⟨3, .statusQuery 3 1⟩] ∧ s.transfer = .running .status 1 3 none 3 ∧
    t.back.transmitter = .sending ∧ (t.pipes[0]).dropping = some (drop false) ∧
    (drop false).go = 3 ∧ u.transfer = .idle ∧ ∀ i : Fin 12, (u.pipes[i]).dropping = none := by
  decide +kernel

theorem witness_HeldFrameTakesTheRoom :
    let q : Queued := ⟨3, .voucherLines 3 1 1 []⟩
    let s := { issuing (.running .data 1 3 none 3) with front := { Port.reset with held := [q] } }
    (s.port .front).held = q :: [] ∧ (s.port .front).queue.length < capacityOf .front ∧
    s.transfer = .running .data 1 3 none q.serial := by decide

theorem witness_CompleteFrameBecomesItsCommand :
    sourceOk .front 8 = true ∧ kindAllowed .front 8 0x04 = true ∧ sourceOk .back 12 = true ∧
    kindAllowed .back 12 0x49 = true ∧ kindAllowed .front 15 0x31 = true ∧
    (List.replicate 64 (0 : Byte)).length ≤ 64 ∧
    (({ State.reset with now := 2 } : State).port .back).lastByte + 1 < 2 ∧
    1 ≤ (({ State.reset with now := 1 } : State).port .front).lastByte + 1 ∧
    (let s := State.reset.byteArrives .front 7
     (s.port .front).idle = false ∧ s.now ≤ (s.port .front).lastLine + 1 ∧
     ((s.onPort .front fun p => { p with incoming := [] }).port .front).incoming = []) ∧
    (State.reset.port .front).idle = true ∧ (State.reset.port .front).incoming = [] ∧
    (State.reset.port .front).transmitter ≠ .sending ∧
    (List.replicate 257 (0 : Byte)).length = (255 : Byte).toNat + 2 := by decide +kernel

/-- Frames that fail the checks one after another, and two that pass them all (R171). -/
theorem witness_frame_checks :
    let framed := fun bytes : List Byte => bytes ++ be 2 (crc bytes)
    receive .front (framed ([0, 1, 1, 65] ++ List.replicate 65 0)) =
      .frameDiscard .front .badLength ∧
    receive .front ([0, 1, 1, 1, 0] ++ [0, 0]) = .frameDiscard .front .badCheck ∧
    receive .front (framed [1, 1, 1, 1, 0]) = .frameDiscard .front .badDestination ∧
    receive .front (framed [0, 9, 1, 1, 0]) = .frameDiscard .front .badSource ∧
    receive .back (framed [0, 13, 0x48, 1, 0]) = .frameDiscard .back .badSource ∧
    receive .front (framed [0, 14, 1, 1, 0]) = .frameDiscard .front .badKind ∧
    receive .back (framed [0, 12, 1, 1, 0]) = .frameDiscard .back .badKind ∧
    receive .front (framed [0, 8, 1, 1, 0]) = .announce 8 [0] ∧
    receive .front (framed [0, 15, 0x31, 2, 9, 7]) = .readKeys 9 := by decide +kernel

theorem witness_commands_have_bytes :
    (∀ c ∈ [Instr.loadArticle 9 goodEntry, .setLane 9 12 3 4 20000 5 95, .setParameter 9 1 999999,
        .setParameterStroke 9 .window 10000, .stationGoOff 9 8, .cornerReset 9],
      c.wf = true ∧ (commandBytes c).isSome = true) ∧
    commandBytes (.setParameter 9 1 0x010203) = some (9, 25, [1, 1, 2, 3]) ∧
    commandBytes (.removeArticle 9 258 2) = some (9, 2, [0, 0, 0, 0, 1, 2, 2]) := by decide

/-! ## Witnesses: tables -/

theorem full_sorted : tableWf full.articles = true := by
  simp only [tableWf, decide_eq_true_eq, full, List.map_map]
  refine List.Pairwise.map _ ?_ (List.pairwise_lt_range (n := 2048))
  intro a b h
  simp only [Function.comp, Entry.key, keyCode, pet, Span.code]
  omega

theorem full_misses : findEntry full.articles 400123456783 .exact = none := by
  simp only [findEntry, full, List.find?_eq_none, List.mem_map, List.mem_range]
  rintro e ⟨k, hk, rfl⟩
  simp only [Entry.key, keyCode, pet, Span.code, beq_iff_eq]
  omega

theorem full_length : full.articles.length = 2048 := by simp [full]

theorem witness_LoadArticleStoresOneEntry :
    checkEntry { goodEntry with scheme := 0 } = none ∧ checkEntry goodEntry = some pet ∧
    tableWf corner.articles = true ∧
    (findEntry corner.articles pet.number pet.span).isSome = true ∧
    findEntry State.reset.articles pet.number pet.span = none ∧
    findEntry full.articles 400123456783 .exact = none ∧ full.articles.length = 2048 ∧
    tableWf full.articles = true :=
  ⟨by decide, by decide, by decide, by decide, by decide, full_misses, full_length, full_sorted⟩

def rawCrate : RawEntry :=
  { goodEntry with
    number := 400777000005, kind := 1, depositClass := 2, slots := 24, bottleNumber := 400123456783 }

/-- The ends of the ranges of R4: an entry at either end of every range passes, and an entry one past an
end does not. -/
theorem witness_entry_checks :
    let low := { goodEntry with
      number := 0, scheme := 1, producer := 1, nominalMass := 1, volume := 1, nominalHeight := 40 }
    let high := { goodEntry with
      number := 999999999999, scheme := 255, producer := 4095, own := 7, check := 4, material := 3,
      depositClass := 15, nominalMass := 2000, massTolerance := 255, residue := 255, volume := 3000,
      nominalHeight := 450, heightTolerance := 31, slots := 99 }
    checkEntry rawCrate = some { pet with
      number := 400777000005, depositClass := 2, body := .crate 24 400123456783 } ∧
    (checkEntry low).isSome = true ∧ (checkEntry high).isSome = true ∧
    (∀ e ∈ [{ low with scheme := 0 }, { low with producer := 0 }, { low with nominalMass := 0 },
        { low with volume := 0 }, { low with nominalHeight := 39 },
        { high with number := 1000000000000 }, { high with span := 3 }, { high with kind := 2 },
        { high with material := 4 }, { high with depositClass := 16 }, { high with producer := 4096 },
        { high with foreign := 8 }, { high with check := 5 }, { high with nominalMass := 2001 },
        { high with residue := 256 }, { high with volume := 3001 }, { high with nominalHeight := 451 },
        { high with heightTolerance := 32 }, { rawCrate with slots := 0 },
        { rawCrate with slots := 31 }, { rawCrate with bottleNumber := 1000000000000 }],
      checkEntry e = none) := by decide +kernel

theorem pet_Ok : pet.Ok := by simp only [Entry.Ok, pet]; decide

theorem witness_RemoveArticleTouchesOneKey :
    Span.ofCode 3 = none ∧ Span.ofCode 0 = some .exact ∧
    findEntry corner.articles (normalise 5 .exact) .exact = none ∧
    (findEntry corner.articles (normalise 400123456783 .exact) .exact).isSome = true := by decide

theorem witness_ClearTableWaitsForReferrals :
    State.reset.referrals = [] ∧ corner.referrals ≠ [] := by decide

theorem witness_ReadArticleAnswersTheEntry :
    let tens : State :=
      { State.reset with articles := [{ pet with number := 400123456780, span := .tens }] }
    findEntry corner.articles (normalise 400123456783 .exact) .exact = some pet ∧
    findEntry tens.articles 400123456783 .exact = none ∧
    findEntry tens.articles (normalise 400123456783 .exact) .exact = none ∧
    (findEntry tens.articles (normalise 400123456783 .tens) .tens).isSome = true ∧
    lookup State.reset.articles 400123456783 = none := by decide

theorem witness_KeysChangeOnlyOverAClearRow :
    (State.reset.rows[(3 : Fin 4).succ]).isClear = true ∧
    (((State.reset.onCell 4 .pet (Cell.take 1)).rows)[(3 : Fin 4).succ]).isClear = false := by
  decide

theorem witness_ClassValuesAreSetAndRead : (15 : Fin 16) ≠ 0 ∧ 9999 ≤ 9999 ∧ 9999 < 10000 := by
  decide

/-- LOAD ARTICLE and LOAD KEY at work. -/
theorem test_tables :
    (∃ t, exec (.loadArticle 0 goodEntry) State.reset = .next t ∧ t.articles = [pet]) ∧
    ∃ t, exec (.loadKey 0 1 12 340) State.reset = .next t ∧ t.keys[0] = some ⟨12, 340⟩ :=
  ⟨⟨_, rfl, by decide +kernel⟩, ⟨_, rfl, by decide +kernel⟩⟩

/-! ## Witnesses: evaluations and referrals -/

theorem witness_StepOneTestsStationAndSequence :
    stationIx 1 = some 0 ∧ parseReport reportBytes = some seen ∧
    ((standing .standby).stations[0]).state = .standby ∧ holding.isHeld 0 7 = true ∧
    ((standing .paused).stations[0]).state = .paused ∧ (standing .paused).isHeld 0 7 = false ∧
    (let s := { serving shop with heldCounts := (Vector.replicate 8 0).set 0 4 }
     s.isBusy 0 = true ∧ s.isHeld 0 7 = false) := by decide +kernel

/-- `ready` with another entry for the article. -/
def knows (e : Entry) : State := { ready with articles := [e] }

/-- Four records with items of station 2. -/
def fourRecords : List Referral :=
  [1, 2, 3, 4].map fun k =>
    { miss with number := k, article := k, waiting := [{ kept with station := 1 }] }

/-- A crate of 24 places whose bottles are `pet`. -/
def crateEntry : Entry :=
  { pet with number := 400777000005, depositClass := 2, body := .crate 24 400123456783 }

theorem serving_SessionsOk : SessionsOk ready := by unfold SessionsOk Session.Ok; decide +kernel

theorem ready_QueuesOk : QueuesOk ready := by unfold QueuesOk; decide +kernel

theorem laneOk_reset : laneOk Lane.reset Pipeline.reset := by
  unfold laneOk
  refine ⟨by decide, by decide, by decide, fun _ => by decide, by decide⟩

theorem laneOk_petLane : laneOk petLane Pipeline.reset := by
  unfold laneOk
  refine ⟨by decide, by decide, by decide, fun _ => by decide, by decide⟩

theorem ready_lanes :
    ∀ i : Fin 12, ready.lanes[i] = (if i = 0 then petLane else Lane.reset) ∧
      ready.pipes[i] = Pipeline.reset := by decide +kernel

theorem ready_LanesOk : LanesOk ready := by
  intro i
  rw [(ready_lanes i).1, (ready_lanes i).2]
  split
  · exact laneOk_petLane
  · exact laneOk_reset

theorem witness_KnownContainerIsAccepted :
    SessionsOk ready ∧ QueuesOk ready ∧ stationIx 1 = some 0 ∧
    parseReport reportBytes = some seen ∧ (ready.stations[0]).state = .operating ∧
    ready.isHeld 0 seen.seq = false ∧ ready.isBusy 0 = false ∧ ready.current? 0 = some shop ∧
    seen.number = some 400123456783 ∧ lookup ready.articles 400123456783 = some pet ∧
    pet.kind = .container ∧ plausibility pet seen = .ok false ∧
    rightsOf ready.keys pet = .accept pet.own true 0 ∧ sessionFull shop 25 = false ∧
    ready.chooseLane (routeOf pet pet.own) (itemFill .container pet.volume) none = some 0 := by
  refine ⟨serving_SessionsOk, ready_QueuesOk, ?_⟩
  refine ⟨by decide, by decide +kernel, by decide, by decide, by decide, by decide +kernel, by decide,
    by decide +kernel, by decide, rfl, by decide +kernel, by decide, by decide +kernel⟩

/-- The steps 3 to 9 each fail in some state in which the report reaches them. -/
theorem witness_StepFails :
    StepFails ready shop { seen with number := none } .noCode ∧
    StepFails { ready with articles := [], referrals := fourRecords } shop seen .unknown ∧
    StepFails (knows { pet with nominalHeight := 100 }) shop seen .shape ∧
    StepFails { knows { pet with check := .strict } with
      keys := (Vector.replicate 4 none).set 0 (some ⟨99, 1⟩) } shop seen .rights ∧
    StepFails (knows { pet with check := .blocked }) shop seen .blocked ∧
    StepFails { knows { pet with check := .refer } with referrals := fourRecords } shop seen
      .referBusy ∧
    StepFails ready { shop with accepted := 9999 } seen .sessionFull ∧
    StepFails { ready with lanes := State.reset.lanes } shop seen .cornerFull := by
  refine ⟨.inl ⟨rfl, rfl⟩, .inr ⟨_, rfl, .inl ⟨by decide +kernel, rfl, .inr ⟨?_, by decide⟩⟩⟩,
    .inr ⟨_, rfl, .inr ⟨_, rfl, .inl (by decide)⟩⟩,
    .inr ⟨_, rfl, .inr ⟨_, rfl, .inr ⟨false, by decide, .inl ⟨by decide +kernel, rfl⟩⟩⟩⟩,
    .inr ⟨_, rfl, .inr ⟨_, rfl, .inr ⟨false, by decide, .inr (.inl ⟨by decide +kernel, rfl⟩)⟩⟩⟩,
    .inr ⟨_, rfl, .inr ⟨_, rfl, .inr ⟨false, by decide,
      .inr (.inr (.inl ⟨by decide +kernel, .inl (by decide), rfl⟩))⟩⟩⟩,
    .inr ⟨_, rfl, .inr ⟨pet, rfl, .inr ⟨false, by decide,
      .inr (.inr (.inr ⟨_, _, _, rfl, .inl ⟨.inl (by decide), rfl⟩⟩))⟩⟩⟩,
    .inr ⟨_, rfl, .inr ⟨pet, rfl, .inr ⟨false, by decide,
      .inr (.inr (.inr ⟨_, _, _, rfl, .inr ⟨by decide +kernel, by decide +kernel, rfl⟩⟩))⟩⟩⟩⟩
  unfold IsMissOf; decide

theorem witness_steps_two_to_nine :
    SessionsOk ready ∧ (ready.stations[0]).state = .operating ∧ ready.isHeld 0 7 = false ∧
    ready.isBusy 0 = false ∧ ready.current? 0 = some shop ∧ shop.state = .opened ∧
    (let x := { shop with state := .closing, disposition := some .voucher, held := 1 }
     (serving x).current? 0 = some x ∧ x.state ≠ .opened) ∧
    (let s := { standing .operating with
        sessions := (List.range 16).map fun k => { shop with number := k + 1, station := 1 } }
     s.current? 0 = none ∧ 16 ≤ s.sessions.length ∧ s.isBusy 0 = false) := by
  refine ⟨serving_SessionsOk, ?_⟩; decide +kernel

/-- The two bodies of an entry, and keys under which the first right is CREDIT, is TAKE, and is none. -/
theorem witness_plausibility_and_rights :
    crateEntry.body = .crate 24 400123456783 ∧ pet.body = .container .pet 24 3 20 500 ∧
    (let e := { pet with check := .strict, partner := ⟨false, true, true⟩ }
     let keys := fun k : SchemeKey => ((Vector.replicate 4 none).set 0 (some k) : Vector _ 4)
     e.check = .strict ∧ (keys ⟨12, 340⟩)[0] ≠ none ∧ (e.triple ⟨12, 340⟩).credit = true ∧
     (e.triple ⟨12, 1⟩).credit = false ∧ (e.triple ⟨12, 1⟩).take = true ∧
     e.triple ⟨13, 1⟩ = ⟨false, false, false⟩) := by decide

/-! A crate with 20 bottles, 3 of them foreign, and a lane that takes crates. -/

def crateBytes : List Byte :=
  be 1 7 ++ be 6 400777000005 ++ be 2 0xFFFF ++ be 2 230 ++ be 1 4 ++ be 1 20 ++ be 1 3

def crateReady : State :=
  { ready.setLane 0 { petLane with route := .crate } with
    articles := [pet, crateEntry], classValues := ((Vector.replicate 16 0).set 1 8).set 2 150 }

theorem witness_crate_is_accepted :
    let r : Report := { seq := 7, number := some 400777000005, mass := none, height := 230,
                        signature := none, bottles := some ⟨20, 3⟩ }
    parseReport crateBytes = some r ∧
      lookup crateReady.articles 400777000005 = some crateEntry ∧ crateEntry.kind = .crate ∧
      plausibility crateEntry r = .ok false ∧ rightsOf crateReady.keys crateEntry =
        .accept crateEntry.own true 0 ∧ bottleCredit crateReady crateEntry r = 136 ∧
      sessionFull shop 286 = false ∧ crateReady.chooseLane .crate (fun _ => 1) none = some 0 ∧
      crateReady.current? 0 = some shop ∧ crateReady.isBusy 0 = false := by decide +kernel

theorem witness_crate_laws : SessionsOk crateReady ∧ QueuesOk crateReady := by
  unfold SessionsOk Session.Ok QueuesOk; decide +kernel

/-- The crate earns 150 and its 17 own bottles 136, in two lines. -/
theorem test_crate_settles_its_bottles :
    ∃ t, exec (.itemReport 1 crateBytes) crateReady = .next t ∧
      (t.session? 1).map Session.lines = some [⟨1, 17, 136⟩, ⟨2, 1, 150⟩] ∧
      t.totals.foreignBottles = 3 := ⟨_, rfl, by decide +kernel⟩

/-- A report opens a session: none is current, and there is room. -/
theorem witness_session_opens :
    let s := standing .operating
    s.current? 0 = none ∧ s.sessions.length < 16 ∧ s.isHeld 0 7 = false ∧ s.isBusy 0 = false ∧
    (∃ t, exec (.itemReport 1 reportBytes) s = .next t ∧ t.lastSession = 1 ∧
      (t.session? 1).map Session.cap = some 50000) :=
  ⟨by decide +kernel, by decide, by decide +kernel, by decide +kernel, _, rfl, by decide +kernel⟩

theorem witness_session_opens_laws : SessionsOk (standing .operating) := by
  unfold SessionsOk Session.Ok; decide +kernel

/-- A second item of the number joins the record; a known article that is to be referred finds room. -/
theorem witness_join_and_decision :
    ReferralsOk holding ∧ miss ∈ holding.referrals ∧ IsMissOf 400123456783 miss ∧
    holding.waitingItems.length < 8 ∧ holding.isHeld 0 8 = false ∧ holding.isBusy 0 = false ∧
    lookup holding.articles 400123456783 = none ∧
    holding.current? 0 = some { shop with held := 1 } ∧
    (let s := knows { pet with check := .refer }
     ReferralsOk s ∧ ¬NoReferralRoom s ∧
     rightsOf s.keys { pet with check := .refer } = .refer ∧ s.current? 0 = some shop) := by
  unfold ReferralsOk IsMissOf NoReferralRoom; decide +kernel

theorem test_second_item_joins :
    ∃ t, exec (.itemReport 1 (be 1 8 ++ reportBytes.drop 1)) holding = .next t ∧
      t.referrals.map (fun r => r.waiting.map fun w => w.report.seq) = [[7, 8]] ∧
      t.front.queue.length = 1 := ⟨_, rfl, by decide +kernel⟩

theorem witness_UnknownArticleIsHeld :
    let s := serving shop
    SessionsOk s ∧ ReferralsOk s ∧ (s.stations[0]).state = .operating ∧ s.isHeld 0 7 = false ∧
    s.isBusy 0 = false ∧ s.current? 0 = some shop ∧ lookup s.articles 400123456783 = none ∧
    s.referrals.any (Referral.isMiss 400123456783) = false ∧ s.referralRoom = true := by
  unfold SessionsOk ReferralsOk Session.Ok; decide +kernel

theorem witness_WithdrawnItemLeavesWithoutVerdict :
    stationIx 1 = some 0 ∧ oneByte [7] = some 7 ∧
    holding.waitingItems.find? (Waiting.names 0 7) = some kept ∧
    holding.session? 1 = some { shop with held := 1 } ∧ holding.isHeld 0 8 = false := by
  decide +kernel

theorem reset_CountersOk (s : State) (h : s.rows = State.reset.rows) (k : s.totals = .zero)
    (l : s.returned = State.reset.returned) : CountersOk s := by
  unfold CountersOk Row.Ok Cell.Ok Totals.Ok; rw [h, k, l]; decide +kernel

theorem ready_CountersOk : CountersOk ready := reset_CountersOk _ rfl rfl rfl

theorem witness_crate_lanes : LanesOk crateReady ∧ CountersOk crateReady := by
  refine ⟨fun i => ?_, reset_CountersOk _ rfl rfl rfl⟩
  have h : ∀ i : Fin 12, crateReady.lanes[i] =
      (if i = 0 then { petLane with route := .crate } else Lane.reset) ∧
      crateReady.pipes[i] = Pipeline.reset := by decide +kernel
  rw [(h i).1, (h i).2]
  split
  · unfold laneOk; exact ⟨by decide, by decide, by decide, fun _ => by decide, by decide⟩
  · exact laneOk_reset

theorem witness_ExpiredReferralReturnsItsItems :
    CountersOk holding ∧ holding.referral? 1 = some miss ∧ miss.expiry ≤ holding.now :=
  ⟨reset_CountersOk _ rfl rfl rfl, by decide +kernel, by decide⟩

theorem holding_SessionsOk : SessionsOk holding := by
  unfold SessionsOk Session.Ok; decide +kernel

/-- With one OPEN session, nothing queued and nothing in AWAIT_PRINT the law of the voucher queue holds. -/
theorem VoucherQueueOk_of_open (s : State) (x : Session) (h : s.sessions = [x])
    (ho : x.state = .opened) (hq : s.voucherQueue = []) (ha : s.awaiting = [])
    (ht : s.transfer = .idle) : VoucherQueueOk s := by
  simp [VoucherQueueOk, h, ho, hq, ha, ht, Transfer.session?]

theorem holding_LinkedOk : LinkedOk holding := by
  refine ⟨?_, ?_, VoucherQueueOk_of_open _ { shop with held := 1 } rfl rfl rfl rfl rfl⟩
  · unfold HeldOk; decide +kernel
  · unfold SessionStatesOk; decide +kernel

/-- The witness of the linked clauses of the three statements about a record's items: an OPEN session with
one item held. -/
theorem witness_linked_items : SessionsOk holding ∧ LinkedOk holding :=
  ⟨holding_SessionsOk, holding_LinkedOk⟩

/-- A DECIDE RETURN gives the held item its verdict and both counts fall (R46, R56). -/
theorem test_decide_return :
    ∃ t, exec (.referralAnswerDecide 0 1 2 0 0) holding = .next t ∧ t.heldCounts[0] = 0 ∧
      (t.session? 1).map Session.held = some 0 ∧
      (t.front.all.map Queued.frame).filterMap Frame.verdict? =
        [waitingReturn holding .referRefused kept] := ⟨_, rfl, by decide +kernel⟩

def decision : Referral := { miss with kind := .decision pet }

theorem witness_EntryAnswerResumesTheItems :
    checkEntry goodEntry = some pet ∧ holding.referral? 1 = some miss ∧ miss.kind = .miss ∧
    holding.articles.length < 2048 ∧ holding.referral? 255 = none ∧
    ({ holding with referrals := [decision] } : State).referral? 1 = some decision ∧
    findEntry full.articles 400123456783 .exact = none ∧ 2048 ≤ full.articles.length :=
  ⟨by decide, by decide +kernel, rfl, by decide, by decide +kernel, by decide +kernel, full_misses,
    by rw [full_length]⟩

theorem witness_DecideAnswerEndsTheItems :
    checkDecision 0 1 0 = some (.accept (.credit 1) .pet) ∧ holding.referral? 1 = some miss ∧
    routeAgrees miss.kind .pet = true ∧ routeAgrees decision.kind .pet = true ∧
    routeAgrees decision.kind .crate = false ∧ holding.referral? 2 = none ∧
    checkDecision 2 99 99 = some .refuse := by decide +kernel

/-! ## Witnesses: sessions and vouchers -/

theorem witness_SessionsAndReferralsAreRead :
    corner.session? 1 = some { rich with held := 1 } ∧ corner.resetAsserted = false := by
  decide +kernel

theorem witness_ClosingEndsTheSession :
    (∀ x ∈ [shop, rich, { shop with held := 1 }], SessionsOk (serving x) ∧
      (serving x).current? 0 = some x ∧ (serving x).session? 1 = some x ∧ x.state = .opened) ∧
    ((serving rich).stations[0]).state = .operating ∧ (serving rich).transfer = .idle ∧
    (serving rich).voucherQueue = [] ∧
    ({ serving rich with transfer := .running .request 2 1 none 1, voucherQueue := [2] } :
      State).transfer ≠ .idle ∧
    rich.idleExpiry = some 0 ∧ 0 ≤ (serving rich).now ∧
    (let s := { standing .paused with sessions := [rich], tagCounter := 65535 }
     s.current? 0 = some rich ∧ (s.stations[0]).state ≠ .operating ∧
     (s.stations[0]).state = .paused ∧ nextTag s = 1 ∧ nextTag State.reset = 1) := by
  unfold SessionsOk Session.Ok; decide +kernel

theorem witness_DiscardFreesAnAwaitingSession :
    let x := { rich with state := .awaitPrint, outcome := some .donated }
    corner.session? 2 = none ∧ corner.session? 1 = some { rich with held := 1 } ∧
    (serving x).session? 1 = some x ∧ x.state = .awaitPrint := by decide +kernel

def issued : Session :=
  { rich with state := .issuing, disposition := some .voucher, issueTag := some 3 }

theorem witness_AcceptedRequestSendsTheLines :
    let s := issuing (.running .request 1 3 none 3)
    s.transfer = .running .request 1 3 none 3 ∧ s.session? 1 = some issued ∧
    parseTag [0, 3] = some 3 ∧ parseTag [0, 4] = some 4 := by decide +kernel

def statusBytes (marker tag outcome number : Nat) : List Byte :=
  be 2 marker ++ be 2 tag ++ be 1 outcome ++ be 5 number ++ be 6 0

theorem witness_PassingStatusIssuesTheVoucher :
    let s := issuing (.running .status 1 3 none 3)
    SessionsOk s ∧ s.voucherQueue = [1] ∧ s.session? 1 = some issued ∧
    (s.stations[issued.station]).state = .operating ∧
    checkStatus 3 (statusBytes 0x5653 3 0 9999999999) = .ok 9999999999 := by
  refine ⟨?_, by decide, by decide +kernel, by decide, ?_⟩
  · unfold SessionsOk Session.Ok; decide +kernel
  · have h : fields [2, 2, 1, 5, 6] (statusBytes 0x5653 3 0 9999999999) =
        some [0x5653, 3, 0, 9999999999, 0] := by decide +kernel
    simp [checkStatus, h, Config.maxValue]

/-- A second session waits behind the one of the transfer, at a station that is or is not OPERATING. -/
def twoQueued (x : StationState) (t : Transfer) : State :=
  { issuing t with
    sessions := [issued, { issued with number := 2, state := .queued, issueTag := none }],
    voucherQueue := [1, 2], stations := (standing x).stations }

theorem witness_second_head :
    ∀ x ∈ [StationState.operating, .paused],
      let s := twoQueued x (.running .status 1 3 none 3)
      let d := delivered { issued with voucherNumber := some 7, outcome := some .issued }
        (s.onTotals (Totals.issue issued.credit))
      SessionsOk s ∧ s.voucherQueue = 1 :: [2] ∧ s.session? 1 = some issued ∧
      (d.2.session? 2).isSome = true ∧ (x = .operating ↔ d.1 ≠ []) := by
  unfold SessionsOk Session.Ok; decide +kernel

theorem witness_StatusIsCheckedInOrder :
    (statusBytes 0x5653 3 0 7).length = 16 ∧
    fields [2, 2, 1, 5, 6] (statusBytes 0x5653 3 0 10000000000) =
      some [0x5653, 3, 0, 10000000000, 0] ∧
    fields [2, 2, 1, 5, 6] (statusBytes 1 3 0 7) = some [1, 3, 0, 7, 0] ∧
    fields [2, 2, 1, 5, 6] (statusBytes 0x5653 4 9 7) = some [0x5653, 4, 9, 7, 0] := by decide

theorem witness_TransferStopsWithItsCause :
    let s := issuing (.running .status 1 3 (some 0) 3)
    s.transfer = .running .status 1 3 (some 0) 3 ∧ s.session? 1 = some issued ∧ 0 ≤ s.now ∧
    checkStatus 3 [] = .error .length ∧
    (issuing (.running .data 1 3 none 3)).transfer = .running .data 1 3 none 3 :=
  ⟨rfl, by decide +kernel, by decide, rfl, rfl⟩

theorem witness_StoppedTransferIsControlled :
    ∀ ph ∈ [Phase.request, .data, .status],
      let s := issuing (.stopped ph .timeout 1 3)
      SessionsOk s ∧ s.transfer = .stopped ph .timeout 1 3 ∧ s.session? 1 = some issued ∧
      s.tagCounter < 65535 ∧ s.voucherQueue = [1] ∧
      (s.stations[issued.station]).state = .operating := by
  unfold SessionsOk Session.Ok; decide +kernel

/-! ## Witnesses: lanes, drops, strokes -/

theorem witness_SetLaneReplacesTheConfiguration :
    LaneKind.ofCode 0 = some .compact ∧ RouteClass.ofCode 4 = some .crate ∧
    (corner.lanes[0]).state ≠ .closed ∧ (State.reset.lanes[0]).state = .closed ∧
    ((State.reset.setLane 0 { Lane.reset with committed := 5 }).lanes[0]).committed = 5 := by
  decide +kernel

theorem test_laneOk_at_hand :
    laneOk { Lane.reset with capacity := 100 } Pipeline.reset ∧ laneOk petLane Pipeline.reset ∧
    laneOk { petLane with reserved := 2, state := .draining }
      { Pipeline.reset with dropping := some (drop false) } ∧
    laneOk { petLane with thermal := .over, state := .rest .opened } Pipeline.reset ∧
    laneOk { petLane with state := .fault, reserved := 2 }
      { Pipeline.reset with dropping := some (drop false) } ∧
    laneOk { petLane with state := .fault } Pipeline.reset := by
  unfold laneOk
  refine ⟨?_, ?_, ?_, ?_, ?_, ?_⟩ <;>
    exact ⟨by decide, by decide, by decide, fun _ => by decide, by decide⟩

/-- One lane that keeps its law, and eleven at their reset values. -/
theorem LanesOk_of_one {l : Lane} {p : Pipeline} (h : laneOk l p) :
    LanesOk ((State.reset.setLane 0 l).setPipe 0 p) := by
  intro i
  by_cases hi : i = 0
  · subst hi; exact h
  · have hv : ¬(0 = i.val) := fun e => hi (Fin.ext e.symm)
    have hl : ((State.reset.setLane 0 l).setPipe 0 p).lanes[i] = Lane.reset := by
      simp [State.setLane, State.setPipe, State.reset, hv]
    have hp : ((State.reset.setLane 0 l).setPipe 0 p).pipes[i] = Pipeline.reset := by
      simp [State.setLane, State.setPipe, State.reset, hv]
    rw [hl, hp]; exact laneOk_reset

/-- The witnesses of the clauses under `LanesOk`: a DRAINING lane with an order, a lane that drops its
order, and one whose drop fails a second time. -/
theorem witness_LanesOk_of_drops :
    LanesOk ((State.reset.setLane 0 { petLane with reserved := 2, state := .draining }).setPipe 0
      { Pipeline.reset with dropping := some (drop false) }) ∧
    LanesOk (dropping false none) ∧ LanesOk (dropping false (some .fail)) := by
  refine ⟨LanesOk_of_one ?_, LanesOk_of_one ?_, LanesOk_of_one ?_⟩ <;> unfold laneOk <;>
    exact ⟨by decide, by decide, by decide, fun _ => by decide, by decide⟩

/-- A second FAIL with two orders in the queue: lane 2 takes one and the other finds no room (R111,
R112). -/
theorem test_second_fail_reroutes :
    let q : List Order := [{ order with handle := 6 }, { order with handle := 7 }]
    let s := ((dropping false (some .fail)).setPipe 0
        { Pipeline.reset with dropping := some (drop false), last := some .fail, queue := q }
      |>.setLane 0 { petLane with reserved := 6 }).setLane 1 { petLane with capacity := 3 }
    ∃ t, exec (.dropDone 1 [0, 5, 1]) s = .next t ∧ (t.lanes[0]).state = .fault ∧
      (t.lanes[0]).reserved = 0 ∧ (t.pipes[1]).orders.map Order.handle = [6] ∧
      t.overflow.items = 2 ∧ t.overflow.fill = 4 := ⟨_, rfl, by decide +kernel⟩

theorem witness_LaneGoOpensAndDrains :
    ({ Lane.reset with capacity := 100 } : Lane).state = .closed ∧
    0 < ({ Lane.reset with capacity := 100 } : Lane).capacity ∧
    ({ Lane.reset with capacity := 100 } : Lane).binPresent = true ∧ petLane.state = .opened ∧
    ({ petLane with state := .draining } : Lane).state = .draining := by decide

theorem witness_ClearFaultClosesTheLane :
    let s := (dropping false none).setLane 0 { petLane with state := .fault, reserved := 2 }
    (s.lanes[0]).state = .fault ∧ (s.pipes[0]).dropping.isSome = true ∧
    ((State.reset.setLane 0 { petLane with state := .fault }).pipes[0]).dropping = none := by
  decide +kernel

theorem witness_LaneChoiceTakesTheRoomiest :
    ready.isCandidate .pet (fun _ => 100) none 0 = true ∧
    ready.isCandidate .pet (fun _ => 101) none 0 = false ∧
    ready.isCandidate .pet (fun _ => 1) (some 0) 0 = false ∧
    ready.chooseLane .pet (fun _ => 1) none = some 0 ∧
    ready.chooseLane .glass (fun _ => 1) none = none ∧
    itemFill .container 500 petLane = 5 ∧ itemFill .container 501 petLane = 6 := by decide +kernel

theorem witness_LaneReportActsOnDifferences :
    let hot : Lane := { petLane with thermal := .hot }
    let out : Lane := { Lane.reset with capacity := 100, binPresent := false }
    let swapped : Lane := { petLane with state := .swap .opened false, binPresent := false }
    hot.state = .opened ∧ hot.thermal ≠ .over ∧ hot.binPresent = true ∧
    out.state = .closed ∧ out.thermal = .normal ∧ out.reserved = 0 ∧ 0 < out.capacity * out.warn ∧
    petLane.thermal = .normal ∧ Pipeline.reset.queue = [] ∧ Pipeline.reset.staged = none ∧
    swapped.reserved * 100 < swapped.capacity * swapped.warn ∧
    ((dropping false none).pipes[0]).dropping = some (drop false) ∧
    ((dropping true (some .fail)).pipes[0]).dropping = some (drop true) := by decide +kernel

theorem LanesOk_of_idle {l : Lane} {p : Pipeline} (hf : l.committed + l.reserved ≤ l.capacity)
    (hr : l.reserved = (p.orders.map Order.fill).sum) (hc : l.state ≠ .closed) (hq : p.queue = [])
    (hs : p.staged = none) (hp : p.request = false) :
    LanesOk ((State.reset.setLane 0 l).setPipe 0 p) :=
  LanesOk_of_one ⟨hf, hr, fun h => absurd h hc, fun _ => ⟨hq, hs⟩, fun h => by simp [hp] at h⟩

/-- Lane 1 in a state, with an empty pipeline. -/
def laneIn (st : LaneState) (c : Thermal) (present : Bool) : State :=
  (State.reset.setLane 0 { petLane with state := st, thermal := c, binPresent := present }).setPipe 0
    Pipeline.reset

/-- The clauses of LANE REPORT under `LanesOk` whose lane holds no order: in REST, in SWAP with either
return, in FAULT, and in DRAINING with a dropping order. -/
theorem witness_LanesOk_of_reports :
    LanesOk (laneIn (.rest .opened) .over true) ∧ LanesOk (laneIn (.rest .draining) .over true) ∧
    LanesOk (laneIn (.swap .opened false) .normal false) ∧
    LanesOk (laneIn (.swap .draining true) .over false) ∧ LanesOk (laneIn .fault .hot false) ∧
    LanesOk (dropping true (some .fail)) := by
  refine ⟨LanesOk_of_idle ?_ ?_ ?_ ?_ ?_ ?_, LanesOk_of_idle ?_ ?_ ?_ ?_ ?_ ?_,
    LanesOk_of_idle ?_ ?_ ?_ ?_ ?_ ?_, LanesOk_of_idle ?_ ?_ ?_ ?_ ?_ ?_,
    LanesOk_of_idle ?_ ?_ ?_ ?_ ?_ ?_, LanesOk_of_idle ?_ ?_ ?_ ?_ ?_ ?_⟩ <;> decide

/-- A lane in REST whose rest return is DRAINING cools down with an empty pipeline, and one in SWAP gets
its bin: both close at once, with two LANE MODE frames (R108, R110, R131). -/
theorem test_return_to_an_empty_drain :
    (∃ t, exec (.laneReport 1 [3, 0, 0]) (laneIn (.rest .draining) .over true) = .next t ∧
      (t.lanes[0]).state = .closed ∧
      t.back.all.map Queued.frame = [.laneMode 1 .draining, .laneMode 1 .closed]) ∧
    (∃ t, exec (.laneReport 1 [3, 0, 0]) (laneIn (.swap .draining true) .over false) = .next t ∧
      (t.lanes[0]).state = .closed ∧
      t.back.all.map Queued.frame = [.laneMode 1 .draining, .laneMode 1 .closed]) ∧
    ∃ t, exec (.laneReport 1 [4, 0, 0]) (laneIn (.swap .draining true) .over false) = .next t ∧
      (t.lanes[0]).state = .rest .draining :=
  ⟨⟨_, rfl, by decide +kernel⟩, ⟨_, rfl, by decide +kernel⟩, _, rfl, by decide +kernel⟩

/-- A jam that is the second FAIL in a row leads to FAULT, and its order stays in the dropping position
(R127, R128). -/
theorem test_second_jam_faults :
    ∃ t, exec (.laneReport 1 [2, 0, 1]) (dropping false (some .fail)) = .next t ∧
      (t.lanes[0]).state = .fault ∧ (t.pipes[0]).dropping = some (drop true) ∧
      t.overflow.items = 0 ∧ t.back.all.map Queued.frame = [.laneMode 1 .fault] :=
  ⟨_, rfl, by decide +kernel⟩

/-- Lane 1 waits for a stroke. -/
def waitingLane : State :=
  (State.reset.setLane 0 { petLane with kind := .compact, reserved := 2 }).setPipe 0
    { Pipeline.reset with staged := some order, request := true }

theorem witness_report_of_a_waiting_lane :
    (waitingLane.pipes[0]).request = true ∧ (waitingLane.lanes[0]).state.runs = true ∧
    (waitingLane.lanes[0]).binPresent = true ∧ waitingLane.feedFault = false ∧
    Thermal.hot ≠ .over ∧ Thermal.hot ≠ (waitingLane.lanes[0]).thermal ∧
    (waitingLane.lanes[0]).state = RunState.laneState .opened := by decide +kernel

/-- A new class and a bin-out in one report start no drop in the lane whose request is withdrawn (R141,
R144). -/
theorem test_report_with_bin_out :
    ∃ t, exec (.laneReport 1 [3, 1, 0]) waitingLane = .next t ∧ (t.pipes[0]).dropping = none ∧
      t.strokes = [] ∧ (t.lanes[0]).state = .swap .opened false := ⟨_, rfl, by decide +kernel⟩

theorem waitingLane_LanesOk : LanesOk waitingLane := by
  refine LanesOk_of_one ⟨by decide, by decide, by decide, ?_, by decide⟩
  intro h; simp [petLane] at h

/-- OVER and a bin-out in one report from a lane whose staged order waits: the lane goes through REST to
SWAP and the order to overflow (R107, R108, R111). -/
theorem test_over_with_bin_out :
    ∃ t, exec (.laneReport 1 [4, 1, 0]) waitingLane = .next t ∧
      (t.lanes[0]).state = .swap .opened true ∧ (t.pipes[0]).orders = [] ∧ t.overflow.items = 1 ∧
      t.overflow.fill = 2 ∧ t.back.all.map Queued.frame =
        [.laneMode 1 (.rest .opened), .laneMode 1 (.swap .opened true)] := ⟨_, rfl, by decide +kernel⟩

theorem witness_PassedDropIsCommitted :
    parseDropDone [0, 5, 0] = some (5, .pass) ∧
    ((dropping false none).pipes[0]).dropping = some (drop false) ∧
    (drop false).order.handle = 5 ∧ parseDropDone [0, 6, 0] = some (6, .pass) := by decide +kernel

/-- The last order of a drain passes, and the lane closes with its frame (R104, R130). -/
theorem test_last_order_closes_the_drain :
    let s := (dropping false none).setLane 0 { petLane with reserved := 2, state := .draining }
    lastOfDrain 0 s = true ∧ lastOfDrain 0 (dropping false none) = false ∧
    ∃ t, exec (.dropDone 1 [0, 5, 0]) s = .next t ∧ (t.lanes[0]).state = .closed ∧
      (t.lanes[0]).committed = 2 ∧ t.back.all.map Queued.frame = [.laneMode 1 .closed] :=
  ⟨by decide, by decide, _, rfl, by decide +kernel⟩

theorem witness_FailedDropGoesToOverflow :
    parseDropDone [0, 5, 1] = some (5, .fail) ∧ (drop true).jam = true ∧
    (drop false).expiry = some 0 ∧ 0 ≤ (dropping false none).now ∧
    ((dropping false (some .fail)).pipes[0]).last = some .fail ∧
    ((dropping false none).pipes[0]).last ≠ some .fail := by decide +kernel

theorem test_failing_laneOk :
    laneOk ((dropping false (some .fail)).lanes[0]) ((dropping false (some .fail)).pipes[0]) := by
  unfold laneOk
  refine ⟨by decide +kernel, by decide +kernel, by decide +kernel, ?_, by decide +kernel⟩
  exact fun _ => by decide +kernel

theorem witness_ExpiredStrokeMakesRoom :
    let s := { corner with now := 4000 }
    s.strokes = [⟨0, 1, 0⟩] ∧ 0 + s.params.window ≤ s.now ∧ s.feedFault = false ∧
    s.strokeSum ≤ s.params.budget ∧ ({ s with feedFault := true } : State).feedFault = true := by
  decide +kernel

/-! ## Witnesses: stations -/

theorem witness_AnnounceAttachesAndKeepsAlive :
    let x : Station := { Station.reset with
      state := .listening, attachCount := 2, attachKind := some .crate, lastAnnounce := some 0 }
    let s : State := { State.reset.setStation 7 x with now := 750 }
    (s.stations[7]).state = .listening ∧ (s.stations[7]).lastAnnounce = some 0 ∧ s.now ≤ 0 + 750 ∧
    0 + 750 < ({ s with now := 751 } : State).now ∧ (bulk .paused).state.attached = true ∧
    (bulk .paused).kind = some .bulk := by decide +kernel

theorem witness_SilentOrChangedStationIsLost :
    let s := { standing .operating with now := 1500 }
    (s.stations[0]).state.attached = true ∧ (s.stations[0]).silenceExpiry = some 1500 ∧
    1500 ≤ s.now ∧ (s.stations[0]).kind ≠ some .crate := by decide +kernel

/-- The clause under the linked laws: a station with an OPEN session and a held item (`witness_linked_items`)
announces another kind, or is sent to OFF. -/
theorem witness_station_with_item_leaves :
    (holding.stations[0]).state.attached = true ∧ (holding.stations[0]).kind ≠ some .crate ∧
    (∃ t, exec (.announce 1 [2]) holding = .next t ∧ t.referrals = [] ∧ t.heldCounts[0] = 0 ∧
      t.awaiting = [1]) ∧
    ∃ t, exec (.stationGoOff 0 1) holding = .next t ∧ t.referrals = [] ∧ t.awaiting = [1] :=
  ⟨by decide +kernel, by decide +kernel, ⟨_, rfl, by decide +kernel⟩, _, rfl, by decide +kernel⟩

theorem witness_StatusReadClearsTheFlag :
    let s := { standing .operating with now := 751 }
    (∃ a, (s.stations[0]).lastAnnounce = some a ∧ a + 750 < s.now) ∧
    ¬∃ a, (State.reset.stations[0]).lastAnnounce = some a ∧ a + 750 < State.reset.now :=
  ⟨⟨0, by decide +kernel⟩, by rintro ⟨a, h, _⟩; revert h; simp [State.reset, Station.reset]⟩

theorem witness_StationGoMovesTheStation :
    let y := { rich with state := .awaitPrint, outcome := some .donated }
    let s := { standing .paused with sessions := [y], awaiting := [1] }
    s.awaiting = [y.number] ∧ s.session? y.number = some y ∧ y.station = 0 ∧
    (standing .standby).awaiting = [] ∧ (standing .standby).referrals = [] ∧
    (standing .standby).current? 0 = none ∧ (bulk .standby).state.attached = true := by
  decide +kernel

/-- Two results of station 1 wait around one of station 2: OPERATE delivers the two in their order, and
the other waits on (R73). -/
theorem test_operate_delivers_in_order :
    let y := { rich with state := .awaitPrint, outcome := some .donated }
    let s := { standing .paused with
      sessions := [y, { y with number := 2, station := 1 }, { y with number := 3 }],
      awaiting := [3, 2, 1] }
    SessionsOk s ∧ VoucherQueueOk s ∧
    ∃ t, exec (.stationGoOperate 9 1) s = .next t ∧ t.awaiting = [2] ∧
      t.sessions.map Session.number = [2] ∧
      (t.front.all.map Queued.frame).filterMap (fun f => match f with
        | .sessionResult st r => some (st, r.session)
        | _ => none) = [(1, 3), (1, 1)] := by
  refine ⟨?_, ?_, _, rfl, by decide +kernel⟩
  · unfold SessionsOk Session.Ok; decide +kernel
  · simp [VoucherQueueOk, standing, State.setStation, State.reset, Transfer.session?, rich, shop]; omega

/-- Three ANNOUNCE frames of one kind attach a listening station (R160). -/
theorem test_three_announces_attach :
    let s := State.reset.setStation 2 { Station.reset with state := .listening }
    ∃ t u v, exec (.announce 3 [1]) s = .next t ∧ exec (.announce 3 [1]) t = .next u ∧
      exec (.announce 3 [1]) u = .next v ∧ (v.stations[2]).state = .standby ∧
      (v.stations[2]).kind = some .bulk :=
  ⟨_, _, _, rfl, rfl, rfl, by decide +kernel, by decide +kernel⟩

/-! ## Witnesses: counters, parameters, refusals, laws -/

/-- The one hypothesis of the statements about reads, masks, status, budget and unknown commands. -/
theorem witness_released : State.reset.resetAsserted = false ∧ corner.resetAsserted = false ∧
    (7 : Nat) ≤ 6 + 1 ∧ (0 = 0 ∨ 12 < 13) := by decide

theorem witness_CountersAndParameters :
    corner.resetAsserted = false ∧ State.reset.strokes = [] ∧ corner.strokes ≠ [] ∧
    Disposition.ofCode 1 = some .donate ∧ Disposition.ofCode 2 = none := by decide

theorem witness_RefusedCommandChangesNothing :
    State.reset.resetAsserted = false ∧ checkEntry { goodEntry with scheme := 0 } = none ∧
    checkDecision 3 0 0 = none ∧ State.reset.session? 1 = none ∧
    (∀ n ∈ [2], (issuing (.stopped .status .timeout 1 3)).transfer =
      .stopped .status .timeout 1 3 ∧ 1 ≠ n) ∧
    checkDecision 1 0 4 = some (.accept .take .crate) ∧
    ({ holding with referrals := [decision] } : State).referral? 1 = some decision ∧
    ¬(pet.kind = .crate ↔ RouteClass.crate = .crate) ∧
    LaneKind.ofCode 4 = none ∧ RouteClass.ofCode 5 = none ∧
    (State.reset.lanes[0]).capacity = 0 ∧ (corner.lanes[0]).state = .opened ∧
    (corner.stations[0]).state = .operating := by decide +kernel

theorem witness_UnfitFrameIsIgnored :
    stationIx 9 = none ∧ laneIx 13 = none ∧ (oneByte [3]).bind StationKind.ofCode = none ∧
    parseReport [] = none ∧ (oneByte [2]).bind Disposition.ofCode = none ∧ parseTag [3] = none ∧
    parseDropDone [0, 0, 0] = none ∧ parseDropDone [0, 1, 2] = none ∧
    parseLaneReport [5, 0, 0] = none := by decide

/-- The ends of the ranges of R23, and one past them. -/
theorem witness_report_ranges :
    let bytes := fun (number mass height sig : Nat) (rest : List Byte) =>
      be 1 255 ++ be 6 number ++ be 2 mass ++ be 2 height ++ be 1 sig ++ rest
    parseReport (bytes 999999999999 4000 600 3 [30, 30]) =
      some { seq := 255, number := some 999999999999, mass := some 4000, height := 600,
             signature := some .glass, bottles := some ⟨30, 30⟩ } ∧
    parseReport (bytes 1000000000000 0xFFFF 0 4 []) =
      some { seq := 255, number := none, mass := none, height := 0, signature := none,
             bottles := none } ∧
    (∀ p ∈ [bytes 1 4001 0 0 [], bytes 1 0xFFFE 0 0 [], bytes 1 0 601 0 [], bytes 1 0 0 5 [],
        bytes 1 0 0 0 [31, 0], bytes 1 0 0 0 [0, 31], bytes 1 0 0 0 [0], reportBytes.drop 1],
      parseReport p = none) ∧
    parseDropDone (be 2 65535 ++ be 1 1) = some (65535, .fail) ∧
    parseLaneReport (laneReportBytes .over true true) = some ⟨.over, false, true⟩ := by
  decide +kernel

theorem corner_lanes : LanesOk corner := by
  unfold LanesOk laneOk
  intro i
  refine ⟨by revert i; decide +kernel, by revert i; decide +kernel, by revert i; decide +kernel, ?_,
    by revert i; decide +kernel⟩
  rintro (h | ⟨b, r, h⟩)
  · revert i; decide +kernel
  · have hs : (corner.lanes[i]).state = .opened ∨ (corner.lanes[i]).state = .closed := by
      clear h; revert i; decide +kernel
    rcases hs with hs | hs <;> rw [hs] at h <;> cases h

theorem corner_LinkedOk : LinkedOk corner := by
  refine ⟨?_, ?_, VoucherQueueOk_of_open _ { rich with held := 1 } rfl rfl rfl rfl rfl⟩
  · unfold HeldOk; decide +kernel
  · unfold SessionStatesOk; decide +kernel

theorem corner_SessionsOk : SessionsOk corner := by unfold SessionsOk Session.Ok; decide +kernel

/-- The waiting item is returned RESET, the lane closes with its frame, and its order is overflow (R60,
R118, R136). -/
theorem test_corner_reset_frames :
    ∃ t, exec (.cornerReset 9) corner = .next t ∧
      (t.front.all.map Queued.frame).filterMap Frame.verdict? = [waitingReturn corner .reset kept] ∧
      t.back.all.map Queued.frame = [.laneMode 1 .closed] ∧ t.overflow.items = 1 ∧
      t.totals.overflowFill = 2 ∧ t.totals.resetDiscarded = 25 := ⟨_, rfl, by decide +kernel⟩

theorem witness_CornerResetEmptiesTheCorner :
    LanesOk corner ∧ CountersOk corner ∧ SessionsOk corner ∧ LinkedOk corner :=
  ⟨corner_lanes, reset_CountersOk _ rfl rfl rfl, corner_SessionsOk, corner_LinkedOk⟩

/-- The laws of entries and handles hold of a state that holds an entry and an order. -/
theorem witness_entries_and_handles : EntriesOk corner ∧ HandlesOk corner := by
  refine ⟨⟨?_, ?_, ?_⟩, ?_⟩
  · intro e he
    have h : corner.articles = [pet] := rfl
    rw [h, List.mem_singleton] at he
    rw [he]; exact pet_Ok
  · intro r hr e h
    have hc : corner.referrals = [miss] := rfl
    rw [hc, List.mem_singleton] at hr
    rw [hr] at h; cases h
  · intro w hw e h
    have hc : corner.waitingItems = [kept] := rfl
    rw [hc, List.mem_singleton] at hw
    rw [hw] at h; cases h
  · unfold HandlesOk; decide +kernel

theorem witness_steps_keep_laws :
    ArticlesOk corner ∧ CountersOk corner ∧ ParametersOk corner ∧ StrokesOk corner ∧
    PortsOk corner ∧ QueuesOk corner ∧ StationsOk corner ∧ SessionsOk corner ∧
    corner.classValues[0] = 0 ∧ ReferralsOk corner ∧ LinkedOk corner ∧ VoucherOk corner ∧
    LanesOk corner ∧ BinsOk corner ∧
    ∃ t, step corner = .next t := by
  refine ⟨?_, reset_CountersOk _ rfl rfl rfl, ?_, ?_, ?_, ?_, ?_, corner_SessionsOk, by decide, ?_,
    corner_LinkedOk, ?_, corner_lanes, ?_, _, rfl⟩
  · unfold ArticlesOk; decide +kernel
  · unfold ParametersOk; decide +kernel
  · unfold StrokesOk; decide +kernel
  · unfold PortsOk; decide +kernel
  · unfold QueuesOk; decide +kernel
  · unfold StationsOk Station.Ok; decide +kernel
  · unfold ReferralsOk; decide +kernel
  · unfold VoucherOk; decide +kernel
  · intro i
    have h : corner.lanes[i] = { petLane with reserved := 2 } ∨ corner.lanes[i] = Lane.reset := by
      revert i; decide +kernel
    rcases h with h | h <;> rw [h] <;> simp [binOk, petLane, Lane.reset]

/-- A word of the table spells no command, and an empty queue idles for one ms. -/
theorem test_step_idles :
    decodeTableWord 8 1 = none ∧ State.reset.withFetchWord 8 1 = State.reset ∧
    ∃ t, step State.reset = .next t ∧ t.now = 1 := ⟨rfl, rfl, _, rfl, rfl⟩

end Sys2Proof.Tests
end

section
/-! SUPPORT. The books of the part: the parameters, the tables, the Referral List, the sessions and the
clearing counters.  `Evolves` names the elementary changes that events make to them and is shown once of
every operation and every command, so that a law of the books is a short induction.  The commands that
may write the tables and the parameters are named by `TableChange`. -/

namespace Sys2Proof.Machine

-- One theorem after another: many that wait for the kernel at once take threads and memory.
set_option Elab.async false

/-- The fields of the books. -/
def State.books (s : State) : Parameters × List Entry × Vector (Option SchemeKey) 4 × Vector Nat 16 ×
    List Referral × List Session × Vector Row 5 × Totals × Vector Nat 19 :=
  (s.params, s.articles, s.keys, s.classValues, s.referrals, s.sessions, s.rows, s.totals, s.returned)

/-- The fields of a session record that its law speaks of (R42, R61). -/
def Session.account (x : Session) : Nat × Nat × Nat × Nat × List VoucherLine :=
  (x.number, x.cap, x.credit, x.accepted, x.lines)

/-- The part holds an entry: in the table, in a snapshot, or as the bottle entry copy of an item (R1, R11,
R48). -/
def State.Holds (s : State) (e : Entry) : Prop :=
  e ∈ s.articles ∨ (∃ r ∈ s.referrals, r.kind = .decision e) ∨
    ∃ r ∈ s.referrals, ∃ w ∈ r.waiting, w.bottle = some e

theorem EntriesOk_iff (s : State) : EntriesOk s ↔ ∀ e, s.Holds e → e.Ok := by
  simp only [EntriesOk, State.Holds, State.waitingItems, List.mem_flatMap]
  constructor
  · rintro ⟨ht, hs, hb⟩ e (he | ⟨r, hr, hk⟩ | ⟨r, hr, w, hw, hk⟩)
    · exact ht e he
    · exact hs r hr e hk
    · exact hb w ⟨r, hr, hw⟩ e hk
  · intro h
    exact ⟨fun e he => h e (.inl he), fun r hr e hk => h e (.inr (.inl ⟨r, hr, hk⟩)),
      fun w ⟨r, hr, hw⟩ e hk => h e (.inr (.inr ⟨r, hr, w, hw, hk⟩))⟩

/-- The elementary changes of the books by which `t` comes from `s`, other than a write of a table or a
parameter. -/
inductive Evolves : State → State → Prop
  | elsewhere {s t : State} (h : t.books = s.books := by rfl) : Evolves s t
  | trans {s t u : State} (h : Evolves s t) (k : Evolves t u) : Evolves s u
  | total (s : State) (g : Totals → Totals) (h : ∀ t : Totals, t.Ok → (g t).Ok) :
      Evolves s (s.onTotals g)
  | cell (s : State) (r : Fin 5) (c : Column) (f : Cell → Cell) (h : ∀ x : Cell, x.Ok → (f x).Ok) :
      Evolves s (s.onCell r c f)
  | counted (s : State) (r : ReturnReason) : Evolves s (s.countReturn r)
  | cleared (s : State) (g : CounterGroup) : Evolves s (s.clearGroup g)
  | session (s : State) (n : Nat) (f : Session → Session)
      (h : ∀ x, (f x).account = x.account := by intro; rfl) : Evolves s (s.onSession n f)
  | fewer (s : State) (xs : List Session) (h : xs.Sublist s.sessions) :
      Evolves s { s with sessions := xs }
  | opened (s : State) (st : Fin 8) (h : s.sessions.length < Config.maxSessions) :
      Evolves s (s.openSession st)
  | added (s : State) (a : Accept) (x : Session) (hx : s.session? x.number = some x)
      (hroom : sessionFull x (s.itemCredit a) = false) : Evolves s (s.sessionAdd a x)
  | records (s : State) (rs : List Referral)
      (h : ∀ e, ({ s with referrals := rs } : State).Holds e → s.Holds e) :
      Evolves s { s with referrals := rs }

theorem Evolves.refl (s : State) : Evolves s s := .elsewhere

/-! ## Producing frames -/

@[simp] theorem State.placeAll_books (fs : List Frame) (s : State) : (s.placeAll fs).books = s.books := by
  simp [State.books]

theorem State.place_evolves (f : Frame) (s : State) : Evolves s (s.place f) := .elsewhere

theorem State.notify_evolves (n : Notice) (s : State) : Evolves s (s.notify n) := .elsewhere

theorem State.placeAll_evolves (fs : List Frame) (s : State) : Evolves s (s.placeAll fs) :=
  .elsewhere (State.placeAll_books fs s)

theorem State.reply_evolves (tag : Byte) (code : Nat) (r : ReplyCode) (results : List Byte)
    (s : State) : Evolves s (s.reply tag code r results) := State.placeAll_evolves _ s

theorem State.refuse_evolves (tag : Byte) (code : Nat) (r : ReplyCode) (s : State) :
    Evolves s (s.refuse tag code r) := State.placeAll_evolves _ s

/-- An effect followed by its REPLY. -/
theorem Evolves.reply {s t : State} (h : Evolves s t) (tag : Byte) (code : Nat) (r : ReplyCode)
    (results : List Byte) : Evolves s (t.reply tag code r results) :=
  h.trans (State.reply_evolves tag code r results t)

/-! ## Counters stay within their maxima -/

theorem riseCount_le (x d : Nat) : riseCount x d ≤ Config.maxCount := Nat.min_le_right _ _

theorem riseValue_le (x d : Nat) : riseValue x d ≤ Config.maxValue := Nat.min_le_right _ _

theorem Cell.credit_ok (n v : Nat) (c : Cell) (h : c.Ok) : (c.credit n v).Ok :=
  ⟨riseCount_le _ _, h.2.1, riseValue_le _ _⟩

theorem Cell.take_ok (n : Nat) (c : Cell) (h : c.Ok) : (c.take n).Ok :=
  ⟨h.1, riseCount_le _ _, h.2.2⟩

theorem Totals.issue_ok (v : Nat) (t : Totals) (h : t.Ok) : (t.issue v).Ok := by
  simpa [Totals.Ok, Totals.issue, riseCount_le, riseValue_le] using h.2.2

theorem Totals.donate_ok (v : Nat) (t : Totals) (h : t.Ok) : (t.donate v).Ok := by
  unfold Totals.Ok at h
  simp [Totals.Ok, Totals.donate, riseCount_le, riseValue_le, h]

theorem Totals.cancel_ok (v : Nat) (t : Totals) (h : t.Ok) : (t.cancel v).Ok := by
  unfold Totals.Ok at h
  simp [Totals.Ok, Totals.cancel, riseCount_le, riseValue_le, h]

theorem Totals.excess_ok (v : Nat) (t : Totals) (h : t.Ok) : (t.excess v).Ok := by
  unfold Totals.Ok at h
  simp [Totals.Ok, Totals.excess, riseValue_le, h]

theorem Totals.discard_ok (v : Nat) (t : Totals) (h : t.Ok) : (t.discard v).Ok := by
  unfold Totals.Ok at h
  simp [Totals.Ok, Totals.discard, riseValue_le, h]

theorem Totals.residue_ok (n : Nat) (t : Totals) (h : t.Ok) : (t.residue n).Ok := by
  unfold Totals.Ok at h
  simp [Totals.Ok, Totals.residue, riseCount_le, h]

theorem Totals.foreign_ok (n : Nat) (t : Totals) (h : t.Ok) : (t.foreign n).Ok := by
  unfold Totals.Ok at h
  simp [Totals.Ok, Totals.foreign, riseCount_le, h]

theorem Totals.overflow_ok (n : Nat) (t : Totals) (h : t.Ok) : (t.overflow n).Ok := by
  unfold Totals.Ok at h
  simp [Totals.Ok, Totals.overflow, riseCount_le, h]

/-! ## Lane operations -/

theorem State.stage_evolves (i : Fin 12) (s : State) : Evolves s (s.stage i) := by
  unfold State.stage
  dsimp only
  split
  · split <;> exact .elsewhere
  · exact .refl s

theorem State.enterDropping_evolves (i : Fin 12) (s : State) : Evolves s (s.enterDropping i) := by
  unfold State.enterDropping
  split
  · exact .refl s
  · exact .trans .elsewhere (State.stage_evolves i _)

theorem State.grant_evolves (i : Fin 12) (w : Nat) (s : State) : Evolves s (s.grant i w) :=
  .trans .elsewhere (State.enterDropping_evolves i _)

theorem State.grantInTurn_evolves (n : Nat) (s : State) : Evolves s (State.grantInTurn n s) := by
  induction n generalizing s with
  | zero => exact .refl s
  | succ n ih =>
    unfold State.grantInTurn
    split
    · exact .refl s
    · split
      · exact .refl s
      · split
        · exact (State.grant_evolves _ _ s).trans (ih _)
        · exact .refl s

theorem State.consider_evolves (s : State) : Evolves s s.consider := by
  unfold State.consider
  split
  · exact .refl s
  · exact State.grantInTurn_evolves 12 s

theorem State.requestStroke_evolves (i : Fin 12) (s : State) : Evolves s (s.requestStroke i) :=
  .trans .elsewhere (State.consider_evolves _)

theorem State.withdrawStroke_evolves (i : Fin 12) (s : State) : Evolves s (s.withdrawStroke i) := by
  unfold State.withdrawStroke
  split
  · exact .trans .elsewhere (State.consider_evolves _)
  · exact .refl s

theorem State.startDrop_evolves (i : Fin 12) (s : State) : Evolves s (s.startDrop i) := by
  unfold State.startDrop
  dsimp only
  split
  · split
    · exact State.enterDropping_evolves i s
    all_goals
      split
      · exact .refl s
      · exact State.requestStroke_evolves i s
  · exact .refl s

theorem State.advance_evolves (i : Fin 12) (s : State) : Evolves s (s.advance i) :=
  (State.stage_evolves i s).trans (State.startDrop_evolves i _)

theorem State.appendOrder_evolves (i : Fin 12) (o : Order) (s : State) :
    Evolves s (s.appendOrder i o) :=
  .trans .elsewhere (State.advance_evolves i _)

theorem State.testNearlyFull_evolves (i : Fin 12) (s : State) : Evolves s (s.testNearlyFull i) := by
  unfold State.testNearlyFull
  dsimp only
  split <;> exact .elsewhere

theorem State.reserve_evolves (i : Fin 12) (f : Nat) (s : State) : Evolves s (s.reserve i f) :=
  .trans .elsewhere (State.testNearlyFull_evolves i _)

theorem State.release_evolves (i : Fin 12) (f : Nat) (s : State) : Evolves s (s.release i f) :=
  .trans .elsewhere (State.testNearlyFull_evolves i _)

theorem State.commit_evolves (i : Fin 12) (f : Nat) (s : State) : Evolves s (s.commit i f) :=
  .trans .elsewhere (State.testNearlyFull_evolves i _)

theorem State.testOverflowHigh_evolves (s : State) : Evolves s s.testOverflowHigh := by
  unfold State.testOverflowHigh
  split
  · exact .elsewhere
  · exact .refl s

theorem State.overflowOrder_evolves (o : Order) (s : State) : Evolves s (s.overflowOrder o) :=
  .trans .elsewhere
    (.trans (.total _ (Totals.overflow o.fill) (Totals.overflow_ok o.fill))
      (State.testOverflowHigh_evolves _))

theorem State.toOverflow_evolves (i : Fin 12) (o : Order) (s : State) :
    Evolves s (s.toOverflow i o) :=
  (State.release_evolves i o.fill s).trans (State.overflowOrder_evolves o _)

theorem State.changeLane_evolves (i : Fin 12) (st : LaneState) (s : State) :
    Evolves s (s.changeLane i st) := by
  unfold State.changeLane
  dsimp only
  split
  · exact .elsewhere
  · exact .trans .elsewhere (State.withdrawStroke_evolves i _)

theorem State.reroute_evolves (i : Fin 12) (o : Order) (s : State) : Evolves s (s.reroute i o) := by
  unfold State.reroute
  dsimp only
  refine (State.release_evolves i o.fill s).trans ?_
  split
  · exact (State.reserve_evolves _ _ _).trans (State.appendOrder_evolves _ _ _)
  · exact State.overflowOrder_evolves o _

theorem State.rerouteAll_evolves (i : Fin 12) (os : List Order) (s : State) :
    Evolves s (s.rerouteAll i os) := by
  induction os generalizing s with
  | nil => exact .refl s
  | cons o os ih =>
    unfold State.rerouteAll
    exact .trans .elsewhere ((State.reroute_evolves i o _).trans (ih _))

theorem State.overflowStaged_evolves (i : Fin 12) (s : State) : Evolves s (s.overflowStaged i) := by
  unfold State.overflowStaged
  split
  · exact .refl s
  · exact .trans .elsewhere (State.toOverflow_evolves i _ _)

theorem State.enterOut_evolves (i : Fin 12) (st : LaneState) (s : State) :
    Evolves s (s.enterOut i st) := by
  unfold State.enterOut
  have hout := Evolves.trans (State.withdrawStroke_evolves i (s.storeLaneState i st))
    (State.overflowStaged_evolves i _)
  exact .trans .elsewhere
    (hout.trans ((State.rerouteAll_evolves i _ _).trans (State.place_evolves _ _)))

theorem State.returnTo_evolves (i : Fin 12) (b : RunState) (s : State) :
    Evolves s (s.returnTo i b) := by
  unfold State.returnTo
  dsimp only
  refine .trans (State.changeLane_evolves i b.laneState s) ?_
  split
  · exact State.changeLane_evolves i _ _
  · exact State.advance_evolves i _

theorem State.enterFault_evolves (i : Fin 12) (s : State) : Evolves s (s.enterFault i) := by
  unfold State.enterFault
  split
  case h_5 | h_6 => exact .refl s
  all_goals exact State.enterOut_evolves i _ s

theorem State.recordResult_evolves (i : Fin 12) (r : DropResult) (s : State) :
    Evolves s (s.recordResult i r) := by
  unfold State.recordResult
  dsimp only
  split
  · exact .trans .elsewhere (State.enterFault_evolves i _)
  · exact .elsewhere

theorem State.goOn_evolves (i : Fin 12) (s : State) : Evolves s (s.goOn i) := by
  unfold State.goOn
  split
  · exact State.advance_evolves i s
  · dsimp only
    split
    · exact (State.advance_evolves i s).trans (State.changeLane_evolves i _ _)
    · exact State.advance_evolves i s
  all_goals exact .refl s

theorem State.endDrop_evolves (i : Fin 12) (r : DropResult) (s : State) :
    Evolves s (s.endDrop i r) := by
  unfold State.endDrop
  split
  · exact .refl s
  · next d _ =>
    refine .trans (t := s.setPipe i { s.pipes[i] with dropping := none }) .elsewhere
      (.trans ?_ (State.goOn_evolves i _))
    have hend : Evolves (s.setPipe i { s.pipes[i] with dropping := none })
        (match r with
          | .pass => (s.setPipe i { s.pipes[i] with dropping := none }).commit i d.order.fill
          | .fail => (s.setPipe i { s.pipes[i] with dropping := none }).toOverflow i d.order) := by
      cases r
      · exact State.commit_evolves i _ _
      · exact State.toOverflow_evolves i _ _
    split
    · exact hend
    · exact hend.trans (State.recordResult_evolves i r _)

theorem State.jam_evolves (i : Fin 12) (s : State) : Evolves s (s.jam i) := by
  unfold State.jam
  split
  · exact .refl s
  · split
    · exact .refl s
    · exact .trans .elsewhere (State.recordResult_evolves i _ _)

theorem State.reportThermal_evolves (i : Fin 12) (c : Thermal) (s : State) :
    Evolves s (s.reportThermal i c) := by
  unfold State.reportThermal
  split
  · exact .refl s
  · dsimp only
    refine .trans (t := s.setLane i { s.lanes[i] with thermal := c, changed := true })
      .elsewhere ?_
    split
    · exact State.changeLane_evolves i _ _
    · exact State.changeLane_evolves i _ _
    · exact .refl _
    · exact State.returnTo_evolves i _ _
    · exact .refl _

theorem State.binOut_evolves (i : Fin 12) (s : State) : Evolves s (s.binOut i) := by
  unfold State.binOut
  dsimp only
  refine .trans (t := s.setLane i { s.lanes[i] with
    binPresent := false, fillAtRemoval := (s.lanes[i]).committed }) .elsewhere ?_
  split
  case h_1 | h_2 | h_3 => exact State.enterOut_evolves i _ _
  all_goals exact .refl _

theorem State.binIn_evolves (i : Fin 12) (s : State) : Evolves s (s.binIn i) := by
  unfold State.binIn
  dsimp only
  refine .trans (t := s.setLane i { s.lanes[i] with binPresent := true, committed := 0 })
    .elsewhere ((State.testNearlyFull_evolves i _).trans ?_)
  split
  · split
    · exact .trans .elsewhere (State.changeLane_evolves i _ _)
    · exact .trans .elsewhere (State.returnTo_evolves i _ _)
  all_goals exact .elsewhere

theorem State.reportBin_evolves (i : Fin 12) (present : Bool) (s : State) :
    Evolves s (s.reportBin i present) := by
  unfold State.reportBin
  split
  · exact State.binOut_evolves i s
  · exact State.binIn_evolves i s
  all_goals exact .refl s

theorem State.considerWaiting_evolves (i : Fin 12) (waited : Bool) (s : State) :
    Evolves s (s.considerWaiting i waited) := by
  unfold State.considerWaiting
  split
  · exact State.consider_evolves s
  · exact .refl s

theorem State.reportJam_evolves (i : Fin 12) (jam : Bool) (s : State) :
    Evolves s (s.reportJam i jam) := by
  unfold State.reportJam
  split
  · exact State.jam_evolves i s
  · exact .refl s

theorem State.report_evolves (i : Fin 12) (r : LaneReport) (s : State) : Evolves s (s.report i r) :=
  (State.reportThermal_evolves i _ s).trans ((State.reportBin_evolves i _ _).trans
    ((State.reportJam_evolves i _ _).trans (State.considerWaiting_evolves i _ _)))

/-! ## Session operations -/

theorem State.freeSession_evolves (n : Nat) (s : State) : Evolves s (s.freeSession n) :=
  (Evolves.fewer s (s.sessions.filter (·.number != n)) List.filter_sublist).trans .elsewhere

theorem State.sendResult_evolves (x : Session) (s : State) : Evolves s (s.sendResult x) :=
  (State.place_evolves _ s).trans (State.freeSession_evolves _ _)

theorem State.deliver_evolves (n : Nat) (s : State) : Evolves s (s.deliver n) := by
  unfold State.deliver
  split
  · exact .refl s
  · split
    · exact State.sendResult_evolves _ s
    · exact (Evolves.session s n fun x => { x with state := .awaitPrint }).trans .elsewhere

theorem State.deliverAwaiting_evolves (st : Fin 8) (s : State) :
    Evolves s (s.deliverAwaiting st) := by
  unfold State.deliverAwaiting
  generalize s.awaiting.filterMap s.session? = xs
  induction xs generalizing s with
  | nil => exact .refl s
  | cons x xs ih =>
    rw [List.foldl_cons]
    refine .trans ?_ (ih _)
    split
    · exact State.sendResult_evolves x s
    · exact .refl s

theorem State.enterRequest_evolves (n tag : Nat) (s : State) : Evolves s (s.enterRequest n tag) := by
  unfold State.enterRequest
  split
  · exact .refl s
  · exact .elsewhere

theorem State.beginRequest_evolves (n : Nat) (s : State) : Evolves s (s.beginRequest n) :=
  .trans (t := { s with tagCounter := nextNumber 65535 s.tagCounter }) .elsewhere
    (.trans (.session _ n _) (State.enterRequest_evolves n _ _))

theorem State.startTransfer_evolves (s : State) : Evolves s s.startTransfer := by
  unfold State.startTransfer
  split
  · exact State.beginRequest_evolves _ s
  · exact .refl s

theorem State.completeClose_evolves (n : Nat) (s : State) : Evolves s (s.completeClose n) := by
  unfold State.completeClose
  split
  · exact .refl s
  · split
    · exact (Evolves.session s n _).trans (State.deliver_evolves n _)
    · split
      · exact (Evolves.session s n _).trans
          (.trans (.total _ _ (Totals.donate_ok _)) (State.deliver_evolves n _))
      all_goals
        exact (Evolves.session s n fun x => { x with state := .queued }).trans
          (.trans .elsewhere (State.startTransfer_evolves _))

theorem State.settle_evolves (n : Nat) (s : State) : Evolves s (s.settle n) := by
  unfold State.settle
  split
  · split
    · exact State.completeClose_evolves n s
    · exact .refl s
  · exact .refl s

theorem State.closeSession_evolves (n : Nat) (d : Disposition) (s : State) :
    Evolves s (s.closeSession n d) :=
  (Evolves.session s n _).trans (State.settle_evolves n _)

theorem State.enterData_evolves (n tag : Nat) (s : State) : Evolves s (s.enterData n tag) := by
  unfold State.enterData
  split
  · exact .refl s
  · exact (State.placeAll_evolves _ s).trans .elsewhere

theorem State.stopTransfer_evolves (c : StopCause) (s : State) : Evolves s (s.stopTransfer c) := by
  unfold State.stopTransfer
  split
  · split
    · exact .elsewhere
    · exact .refl s
  all_goals exact .refl s

theorem State.endTransfer_evolves (n : Nat) (f : Session → Session) (g : Totals → Totals)
    (hf : ∀ x, (f x).account = x.account) (hg : ∀ t : Totals, t.Ok → (g t).Ok) (s : State) :
    Evolves s (s.endTransfer n f g) :=
  (((Evolves.session s n f hf).trans (.total _ g hg)).trans (State.deliver_evolves n _)).trans
    (.trans .elsewhere (State.startTransfer_evolves _))

theorem State.touch_evolves (n : Nat) (s : State) : Evolves s (s.touch n) :=
  .session s n _

/-! ## Evaluations -/

theorem State.returnItem_evolves (st : Fin 8) (seq : Nat) (r : ReturnReason) (s : State) :
    Evolves s (s.returnItem st seq r) :=
  (Evolves.counted s r).trans .elsewhere

theorem State.hold_evolves (w : Waiting) (s : State) : Evolves s (s.hold w) :=
  .trans (t := s.setHeld w.station (s.heldCounts[w.station] + 1)) .elsewhere
    (.trans (.session _ w.session fun x => { x with held := x.held + 1 }) .elsewhere)

theorem State.unhold_evolves (w : Waiting) (s : State) : Evolves s (s.unhold w) :=
  .trans (t := s.setHeld w.station (s.heldCounts[w.station] - 1)) .elsewhere
    (.session _ w.session _)

theorem State.releaseItem_evolves (w : Waiting) (s : State) : Evolves s (s.releaseItem w) :=
  (State.unhold_evolves w s).trans (State.settle_evolves _ _)

theorem mem_insertReferral (r : Referral) (rs : List Referral) (x : Referral) :
    x ∈ insertReferral r rs ↔ x = r ∨ x ∈ rs := by
  induction rs with
  | nil => simp [insertReferral]
  | cons y ys ih =>
    unfold insertReferral
    split
    · simp
    · simp only [List.mem_cons, ih]
      tauto

theorem State.makeReferral_evolves (k : ReferralKind) (n : Nat) (w : Waiting) (s : State)
    (hk : ∀ e, k = .decision e → s.Holds e) (hw : ∀ e, w.bottle = some e → s.Holds e) :
    Evolves s (s.makeReferral k n w) := by
  refine .trans (.records s (insertReferral _ s.referrals) ?_)
    (.trans .elsewhere (State.hold_evolves w _))
  rintro e (he | ⟨r, hr, hd⟩ | ⟨r, hr, v, hv, hb⟩)
  · exact .inl he
  · rcases (mem_insertReferral _ _ r).mp hr with rfl | hr
    · exact hk e hd
    · exact .inr (.inl ⟨r, hr, hd⟩)
  · rcases (mem_insertReferral _ _ r).mp hr with rfl | hr
    · rw [List.mem_singleton.mp hv] at hb
      exact hw e hb
    · exact .inr (.inr ⟨r, hr, v, hv, hb⟩)

theorem State.joinMiss_evolves (n : Nat) (w : Waiting) (s : State)
    (hw : ∀ e, w.bottle = some e → s.Holds e) : Evolves s (s.joinMiss n w) := by
  have hkind : ∀ r : Referral, (r.join n w).kind = r.kind := by
    intro r; unfold Referral.join; split <;> rfl
  have hwait : ∀ r : Referral, ∀ v ∈ (r.join n w).waiting, v ∈ r.waiting ∨ v = w := by
    intro r v hv
    unfold Referral.join at hv
    split at hv
    · simpa using hv
    · exact .inl hv
  refine .trans (.records s (s.referrals.map (Referral.join n w)) ?_) (State.hold_evolves w _)
  simp only [State.Holds, List.mem_map]
  rintro e (he | ⟨_, ⟨r, hr, rfl⟩, hd⟩ | ⟨_, ⟨r, hr, rfl⟩, v, hv, hb⟩)
  · exact .inl he
  · exact .inr (.inl ⟨r, hr, (hkind r).symm.trans hd⟩)
  · rcases hwait r v hv with hv | rfl
    · exact .inr (.inr ⟨r, hr, v, hv, hb⟩)
    · exact hw e hb

theorem State.requestMiss_evolves (n : Nat) (w : Waiting) (s : State)
    (hw : ∀ e, w.bottle = some e → s.Holds e) : Evolves s (s.requestMiss n w) := by
  unfold State.requestMiss
  split
  · split
    · exact State.joinMiss_evolves n w s hw
    · exact State.returnItem_evolves _ _ _ s
  · split
    · exact State.makeReferral_evolves _ n w s (fun _ h => nomatch h) hw
    · exact State.returnItem_evolves _ _ _ s

theorem State.requestDecision_evolves (n : Nat) (e : Entry) (w : Waiting) (s : State)
    (he : s.Holds e) (hw : ∀ e, w.bottle = some e → s.Holds e) :
    Evolves s (s.requestDecision n e w) := by
  unfold State.requestDecision
  split
  · exact State.makeReferral_evolves _ n w s (fun _ h => ReferralKind.decision.inj h ▸ he) hw
  · exact State.returnItem_evolves _ _ _ s

theorem Cell.creditOrTake_ok (credit : Bool) (n v : Nat) (c : Cell) (h : c.Ok) :
    ((if credit then Cell.credit n v else Cell.take n) c).Ok := by
  split
  · exact c.credit_ok n v h
  · exact c.take_ok n h

theorem State.countCells_evolves (a : Accept) (own bottle : Nat) (s : State) :
    Evolves s (s.countCells a own bottle) := by
  unfold State.countCells
  dsimp only
  refine (Evolves.cell s a.row a.column _ (Cell.creditOrTake_ok a.credit 1 own)).trans ?_
  generalize s.onCell a.row a.column _ = t
  split
  · exact .refl _
  · split
    · exact .refl _
    · split
      · exact .cell _ _ _ _ (Cell.credit_ok _ _)
      · exact .cell _ _ _ _ (Cell.take_ok _)

theorem State.countAccepted_evolves (a : Accept) (own bottle : Nat) (s : State) :
    Evolves s (s.countAccepted a own bottle) :=
  (State.countCells_evolves a own bottle s).trans
    (.total _ _ fun t h => Totals.foreign_ok _ _ (Totals.residue_ok _ t h))

theorem State.accept_evolves (a : Accept) (x : Session) (i : Fin 12) (f : Nat) (s : State)
    (hx : s.session? x.number = some x) (hroom : sessionFull x (s.itemCredit a) = false) :
    Evolves s (s.accept a x i f) := by
  unfold State.accept
  exact (Evolves.added s a x hx hroom).trans (.trans .elsewhere
    ((State.appendOrder_evolves i _ _).trans
      ((State.countAccepted_evolves a _ _ _).trans (State.place_evolves _ _))))

theorem State.session?_number {s : State} {n : Nat} {x : Session} (h : s.session? n = some x) :
    x.number = n := by
  simpa using List.find?_some h

theorem State.fromCap_evolves (a : Accept) (s : State) : Evolves s (s.fromCap a) := by
  unfold State.fromCap
  split
  · exact .refl s
  · next x hx =>
    split
    · exact State.returnItem_evolves _ _ _ s
    · next hroom =>
      split
      · exact State.returnItem_evolves _ _ _ s
      · next i _ =>
        refine (State.reserve_evolves i _ s).trans (State.accept_evolves a x i _ _ ?_ ?_)
        all_goals rw [State.reserve_laneOnly i _ s]
        · exact (State.session?_number hx).symm ▸ hx
        · exact Bool.not_eq_true _ ▸ hroom

theorem findEntry_mem {t : List Entry} {n : Nat} {sp : Span} {e : Entry}
    (h : findEntry t n sp = some e) : e ∈ t := List.mem_of_find?_eq_some h

theorem lookup_mem {t : List Entry} {n : Nat} {e : Entry} (h : lookup t n = some e) : e ∈ t := by
  simp only [lookup, Option.or_eq_some_iff] at h
  obtain h | ⟨-, h | ⟨-, h⟩⟩ := h
  all_goals exact findEntry_mem h

theorem bottleLookup_mem {t : List Entry} {e b : Entry} (h : bottleLookup t e = some b) : b ∈ t := by
  unfold bottleLookup at h
  split at h
  · cases h
  · exact findEntry_mem (Option.filter_eq_some_iff.mp h).1

theorem State.fromRights_evolves (q : Asking) (n : Nat) (e : Entry) (w : Waiting) (s : State)
    (he : s.Holds e) (hw : ∀ e, w.bottle = some e → s.Holds e) :
    Evolves s (s.fromRights q n e w) := by
  unfold State.fromRights
  split
  · exact State.returnItem_evolves _ _ _ s
  · exact State.returnItem_evolves _ _ _ s
  · split
    · exact State.requestDecision_evolves n e w s he hw
    · exact State.returnItem_evolves _ _ _ s
  · exact State.fromCap_evolves _ s

/-- A new report comes without a bottle entry copy; a resumed item joins no record. -/
theorem State.fromLookup_evolves (q : Asking) (n : Nat) (w : Waiting) (s : State)
    (hq : q = .report → w.bottle = none) : Evolves s (s.fromLookup q n w) := by
  unfold State.fromLookup
  split
  · split
    · exact State.requestMiss_evolves n w s fun e h => by rw [hq rfl] at h; cases h
    · exact State.returnItem_evolves _ _ _ s
  · next e he =>
    split
    · exact State.returnItem_evolves _ _ _ s
    · exact State.fromRights_evolves _ _ _ _ s (.inl (lookup_mem he))
        fun b hb => .inl (bottleLookup_mem hb)

theorem State.fromCode_evolves (st : Fin 8) (n : Nat) (r : Report) (s : State) :
    Evolves s (s.fromCode st n r) := by
  unfold State.fromCode
  split
  · exact State.returnItem_evolves _ _ _ s
  · exact State.fromLookup_evolves _ _ _ s fun _ => rfl

theorem State.fromSession_evolves (st : Fin 8) (r : Report) (s : State) :
    Evolves s (s.fromSession st r) := by
  unfold State.fromSession
  split
  · split
    · exact (State.touch_evolves _ s).trans (State.fromCode_evolves st _ r _)
    · exact State.returnItem_evolves _ _ _ s
  · split
    · next hroom =>
      exact (Evolves.opened s st hroom).trans
        ((State.touch_evolves _ _).trans (State.fromCode_evolves st _ r _))
    · exact State.returnItem_evolves _ _ _ s

theorem State.evaluate_evolves (st : Fin 8) (r : Report) (s : State) :
    Evolves s (s.evaluate st r) := by
  unfold State.evaluate
  split
  · split
    · exact .refl s
    · split
      · exact State.returnItem_evolves _ _ _ s
      · exact State.fromSession_evolves st r s
  · split
    · exact .refl s
    · exact State.returnItem_evolves _ _ _ s
  all_goals exact .refl s

/-! ## The Referral List -/

/-- Records that come from records of the list by leaving items out hold no new entry. -/
theorem State.fewerItems_evolves (s : State) (rs : List Referral)
    (h : ∀ r ∈ rs, ∃ r' ∈ s.referrals, r.kind = r'.kind ∧ r.waiting ⊆ r'.waiting) :
    Evolves s { s with referrals := rs } := by
  refine .records s rs ?_
  rintro e (he | ⟨r, hr, hd⟩ | ⟨r, hr, w, hw, hb⟩)
  · exact .inl he
  · obtain ⟨r', hr', hkind, -⟩ := h r hr
    exact .inr (.inl ⟨r', hr', hkind ▸ hd⟩)
  · obtain ⟨r', hr', -, hsub⟩ := h r hr
    exact .inr (.inr ⟨r', hr', w, hsub hw, hb⟩)

theorem State.freeReferral_evolves (n : Nat) (s : State) : Evolves s (s.freeReferral n) :=
  State.fewerItems_evolves s _ fun r hr =>
    ⟨r, List.mem_of_mem_filter hr, rfl, List.Subset.refl _⟩

theorem State.endItems_evolves (v : Waiting → State → State) (hv : ∀ w s, Evolves s (v w s))
    (ws : List Waiting) (s : State) : Evolves s (s.endItems v ws) := by
  induction ws generalizing s with
  | nil => exact .refl s
  | cons w ws ih =>
    rw [State.endItems_cons]
    exact ((hv w s).trans (State.releaseItem_evolves w _)).trans (ih _)

theorem State.returnWaiting_evolves (r : ReturnReason) (w : Waiting) (s : State) :
    Evolves s (s.returnWaiting r w) := State.returnItem_evolves _ _ _ s

theorem State.resumeEntry_evolves (n : Nat) (w : Waiting) (s : State) :
    Evolves s (s.resumeEntry n w) := State.fromLookup_evolves _ _ _ s fun h => nomatch h

theorem State.resumeDecided_evolves (k : ReferralKind) (d : Decided) (rc : RouteClass) (w : Waiting)
    (s : State) : Evolves s (s.resumeDecided k d rc w) := State.fromCap_evolves _ s

theorem State.removeWaiting_evolves (gone : Waiting → Bool) (cause : EndedCause) (s : State) :
    Evolves s (s.removeWaiting gone cause) := by
  refine (State.fewerItems_evolves s _ fun r hr => ?_).trans (State.placeAll_evolves _ _)
  obtain ⟨r', hr', rfl⟩ := List.mem_map.mp (List.mem_of_mem_filter hr)
  exact ⟨r', hr', rfl, List.filter_subset_self _⟩

theorem State.unholdAll_evolves (ws : List Waiting) (s : State) :
    Evolves s (ws.foldl (fun t w => t.unhold w) s) := by
  induction ws generalizing s with
  | nil => exact .refl s
  | cons w ws ih => exact (State.unhold_evolves w s).trans (ih _)

theorem State.leaveService_evolves (st : Fin 8) (s : State) : Evolves s (s.leaveService st) := by
  unfold State.leaveService
  dsimp only
  refine ((State.unholdAll_evolves _ s).trans (State.removeWaiting_evolves _ _ _)).trans
    (u := _) (t := s.removeStation st) ?_
  split
  · split
    · exact State.closeSession_evolves _ _ _
    · exact State.settle_evolves _ _
  · exact .refl _

end Sys2Proof.Machine
end

section
/-! SUPPORT. What each command does to the books: it evolves them (`Evolves`), after a write of a table or
a parameter where the command may make one (`TableChange`). -/

namespace Sys2Proof.Machine

-- One theorem after another: many that wait for the kernel at once take threads and memory.
set_option Elab.async false

/-- An outcome is a next state to which the books of `s` evolve. -/
def Evolving (s : State) (o : Host.Outcome State Fault Refusal) : Prop :=
  ∃ t, o = .next t ∧ Evolves s t

theorem live_evolving {f : State → State} {s : State} (h : Evolves s (f s)) :
    Evolving s (live f s) := by
  cases hr : s.resetAsserted
  · exact ⟨f s, live_released hr, h⟩
  · exact ⟨s, live_asserted hr, .refl s⟩

section
variable (s : State) (tag : Byte)

/-! ## The lines and the links -/

theorem execFeedflt_evolving (level : Bool) : Evolves s (s.feedLevel level) := by
  unfold State.feedLevel
  dsimp only
  split
  · exact .elsewhere
  · split
    · exact .elsewhere
    · exact .trans .elsewhere (State.consider_evolves _)

theorem execSendCollision_evolving (l : Link) : Evolving s (execSendCollision l s) := by
  refine live_evolving ?_
  dsimp only
  split
  · exact .elsewhere
  all_goals exact .refl s

theorem State.startTimers_evolves (q : Queued) : Evolves s (s.startTimers q) := by
  unfold State.startTimers State.startReplyTimer State.startDropTimer
  split
  case h_4 =>
    split
    · exact .refl s
    · split
      · split
        · exact .elsewhere
        · exact .refl s
      · exact .refl s
  case h_1 | h_2 | h_3 =>
    split
    · split
      · exact .elsewhere
      · exact .refl s
    all_goals exact .refl s
  all_goals exact .refl s

theorem execFrameSent_evolving (l : Link) : Evolving s (execFrameSent l s) := by
  refine live_evolving ?_
  dsimp only
  split
  · exact .trans .elsewhere (State.startTimers_evolves _ _)
  · exact .refl s

theorem State.linesPlaced_evolves (n : Nat) : Evolves s (s.linesPlaced n) := by
  unfold State.linesPlaced
  split
  · split
    · exact .elsewhere
    · exact .refl s
  · exact .refl s

theorem execHeldFramePlaced_evolving (l : Link) : Evolving s (execHeldFramePlaced l s) := by
  refine live_evolving ?_
  split
  · split
    · exact .trans .elsewhere (State.linesPlaced_evolves _ _)
    · exact .refl s
  · exact .refl s

/-! ## Stations -/

theorem State.countAnnounce_evolves (st : Fin 8) (k : StationKind) :
    Evolves s (s.countAnnounce st k) := by
  unfold State.countAnnounce
  dsimp only
  split
  · exact .elsewhere
  · split <;> exact .elsewhere

theorem State.lose_evolves (st : Fin 8) (loss : LossCause) (cause : ChangeCause)
    (k : Option StationKind) : Evolves s (s.lose st loss cause k) :=
  .trans .elsewhere ((State.leaveService_evolves st _).trans (State.notify_evolves _ _))

theorem State.hearAnnounce_evolves (st : Fin 8) (k : StationKind) :
    Evolves s (s.hearAnnounce st k) := by
  unfold State.hearAnnounce
  dsimp only
  split
  · exact .elsewhere
  · exact State.lose_evolves s st _ _ _

theorem execAnnounce_evolving (src : Nat) (p : List Byte) : Evolving s (execAnnounce src p s) := by
  refine live_evolving ?_
  split
  · split
    · exact State.countAnnounce_evolves s _ _
    case h_5 | h_6 => exact .refl s
    all_goals exact State.hearAnnounce_evolves s _ _
  · exact .refl s

theorem execSilenceExpiry_evolving (n : Nat) : Evolving s (execSilenceExpiry n s) := by
  refine live_evolving ?_
  split
  · split
    · split
      · exact State.lose_evolves s _ _ _ _
      · exact .refl s
    · exact .refl s
  · exact .refl s

theorem execStationGoListen_evolving (n : Nat) : Evolving s (execStationGoListen tag n s) := by
  refine live_evolving ?_
  dsimp only
  split
  · exact State.refuse_evolves _ _ _ s
  · split
    case h_1 | h_2 => exact Evolves.reply .elsewhere _ _ _ _
    all_goals exact State.refuse_evolves _ _ _ s

theorem execStationGoOperate_evolving (n : Nat) : Evolving s (execStationGoOperate tag n s) := by
  refine live_evolving ?_
  split
  · exact State.refuse_evolves _ _ _ s
  · split
    case h_1 | h_2 =>
      exact Evolves.reply (.trans .elsewhere (State.deliverAwaiting_evolves _ _)) _ _ _ _
    all_goals exact State.refuse_evolves _ _ _ s

theorem execStationGoPause_evolving (n : Nat) : Evolving s (execStationGoPause tag n s) := by
  refine live_evolving ?_
  split
  · exact State.refuse_evolves _ _ _ s
  · split
    · exact Evolves.reply .elsewhere _ _ _ _
    all_goals exact State.refuse_evolves _ _ _ s

theorem State.turnOff_evolves (st : Fin 8) : Evolves s (s.turnOff st) := by
  unfold State.turnOff
  dsimp only
  refine .trans ?_ (State.place_evolves _ _)
  split
  case h_2 | h_3 | h_4 => exact .trans .elsewhere (State.leaveService_evolves _ _)
  all_goals exact .elsewhere

theorem execStationGoOff_evolving (n : Nat) : Evolving s (execStationGoOff tag n s) := by
  refine live_evolving ?_
  split
  · exact State.refuse_evolves _ _ _ s
  · split
    · exact State.reply_evolves _ _ _ _ s
    · exact (State.turnOff_evolves s _).reply _ _ _ _

theorem execReadStatusStation_evolving (n : Nat) : Evolving s (execReadStatusStation tag n s) := by
  refine live_evolving ?_
  dsimp only
  split
  · exact State.refuse_evolves _ _ _ s
  · exact Evolves.reply .elsewhere _ _ _ _

theorem execReadStatusLane_evolving (n : Nat) : Evolving s (execReadStatusLane tag n s) := by
  refine live_evolving ?_
  dsimp only
  split
  · exact State.reply_evolves _ _ _ _ s
  · split
    · exact State.refuse_evolves _ _ _ s
    · exact Evolves.reply .elsewhere _ _ _ _

/-! ## Items and sessions -/

theorem execItemReport_evolving (src : Nat) (p : List Byte) : Evolving s (execItemReport src p s) := by
  refine live_evolving ?_
  split
  · exact State.evaluate_evolves _ _ s
  · exact .refl s

theorem execItemWithdraw_evolving (src : Nat) (p : List Byte) :
    Evolving s (execItemWithdraw src p s) := by
  refine live_evolving ?_
  split
  · split
    · exact (State.unhold_evolves _ s).trans
        ((State.removeWaiting_evolves _ _ _).trans (State.settle_evolves _ _))
    · exact .refl s
  · exact .refl s

theorem execSessionClose_evolving (src : Nat) (p : List Byte) :
    Evolving s (execSessionClose src p s) := by
  refine live_evolving ?_
  split
  · split
    case h_3 => exact .refl s
    all_goals
      split
      · exact State.closeSession_evolves _ _ s
      · exact .refl s
  · exact .refl s

theorem execIdleExpiry_evolving (n : Nat) : Evolving s (execIdleExpiry n s) := by
  refine live_evolving ?_
  split
  · split
    · split
      · exact State.closeSession_evolves _ _ s
      · exact .refl s
    · exact .refl s
  · exact .refl s

theorem execReadSessionRecord_evolving (n : Nat) : Evolving s (execReadSessionRecord tag n s) := by
  refine live_evolving ?_
  split
  · exact State.refuse_evolves _ _ _ s
  · split
    · exact State.refuse_evolves _ _ _ s
    · exact State.reply_evolves _ _ _ _ s

theorem execReadSessionLines_evolving (n k : Nat) : Evolving s (execReadSessionLines tag n k s) := by
  refine live_evolving ?_
  dsimp only
  split
  · exact State.refuse_evolves _ _ _ s
  · split
    · exact State.refuse_evolves _ _ _ s
    · exact State.reply_evolves _ _ _ _ s

theorem execDiscardSession_evolving (n : Nat) : Evolving s (execDiscardSession tag n s) := by
  refine live_evolving ?_
  split
  · exact State.refuse_evolves _ _ _ s
  · split
    · exact State.refuse_evolves _ _ _ s
    · split
      · exact (State.freeSession_evolves _ s).reply _ _ _ _
      · exact State.refuse_evolves _ _ _ s

/-! ## Referrals -/

theorem execReferralExpiry_evolving (n : Nat) : Evolving s (execReferralExpiry n s) := by
  refine live_evolving ?_
  split
  · split
    · exact (State.endItems_evolves _ (State.returnWaiting_evolves _) _ s).trans
        ((State.freeReferral_evolves _ _).trans (State.notify_evolves _ _))
    · exact .refl s
  · exact .refl s

theorem State.resolve_evolves (r : Referral) (v : Waiting → State → State)
    (hv : ∀ w s, Evolves s (v w s)) : Evolves s (s.resolve tag r v) :=
  ((State.freeReferral_evolves _ s).trans (State.endItems_evolves v hv _ _)).reply _ _ _ _

theorem execReferralAnswerDecide_evolving (n v c r : Nat) :
    Evolving s (execReferralAnswerDecide tag n v c r s) := by
  refine live_evolving ?_
  split
  · split
    · exact State.refuse_evolves _ _ _ s
    · split
      · exact State.resolve_evolves s tag _ _ (State.returnWaiting_evolves _)
      · split
        · exact State.resolve_evolves s tag _ _ (State.resumeDecided_evolves _ _ _)
        · exact State.refuse_evolves _ _ _ s
  · exact State.refuse_evolves _ _ _ s

/-! ## Vouchers -/

theorem execRequestAccepted_evolving (src : Nat) (p : List Byte) :
    Evolving s (execRequestAccepted src p s) := by
  refine live_evolving ?_
  split
  · split
    · split
      · exact State.enterData_evolves _ _ s
      · exact State.stopTransfer_evolves _ s
    · exact .refl s
  · exact .refl s

theorem execVoucherStatus_evolving (src : Nat) (p : List Byte) :
    Evolving s (execVoucherStatus src p s) := by
  refine live_evolving ?_
  split
  · split
    · split
      · exact State.stopTransfer_evolves _ s
      · exact State.endTransfer_evolves _ _ _ (by intro; rfl) (Totals.issue_ok _) s
    · exact .refl s
  · exact .refl s

theorem execReplyTimerExpiry_evolving : Evolving s (execReplyTimerExpiry s) := by
  refine live_evolving ?_
  split
  · split
    · exact State.stopTransfer_evolves _ s
    · exact .refl s
  · exact .refl s

theorem State.onStopped_evolves (n : Nat) (act : Phase → Nat → State → State)
    (h : ∀ p g, Evolves s (act p g s)) : Evolves s (s.onStopped tag n act) := by
  unfold State.onStopped
  split
  · exact State.refuse_evolves _ _ _ s
  · split
    · split
      · exact h _ _
      · exact State.refuse_evolves _ _ _ s
    all_goals exact State.refuse_evolves _ _ _ s

theorem State.resumePhase_evolves (p : Phase) (n g : Nat) : Evolves s (s.resumePhase p n g) := by
  cases p
  · exact State.enterRequest_evolves n g s
  · exact State.enterData_evolves n g s
  · exact .elsewhere

theorem execVoucherControlResume_evolving (n : Nat) :
    Evolving s (execVoucherControlResume tag n s) :=
  live_evolving (State.onStopped_evolves s tag n _ fun p g =>
    (State.resumePhase_evolves s p n g).reply _ _ _ _)

theorem execVoucherControlRestart_evolving (n : Nat) :
    Evolving s (execVoucherControlRestart tag n s) :=
  live_evolving (State.onStopped_evolves s tag n _ fun _ _ =>
    (State.beginRequest_evolves n s).reply _ _ _ _)

theorem execVoucherControlCancel_evolving (n : Nat) :
    Evolving s (execVoucherControlCancel tag n s) :=
  live_evolving (State.onStopped_evolves s tag n _ fun _ _ =>
    (State.endTransfer_evolves n _ _ (by intro; rfl) (Totals.cancel_ok _) s).reply _ _ _ _)

theorem execVoucherControlAbort_evolving (n : Nat) : Evolving s (execVoucherControlAbort tag n s) := by
  refine live_evolving ?_
  split
  · exact State.refuse_evolves _ _ _ s
  · split
    · split
      · refine Evolves.reply (.trans ?_ (State.stopTransfer_evolves _ _)) _ _ _ _
        split <;> exact .elsewhere
      · exact State.refuse_evolves _ _ _ s
    all_goals exact State.refuse_evolves _ _ _ s

/-! ## Lanes -/

theorem execDropDone_evolving (src : Nat) (p : List Byte) : Evolving s (execDropDone src p s) := by
  refine live_evolving ?_
  split
  · split
    · split
      · exact State.endDrop_evolves _ _ s
      · exact .refl s
    · exact .refl s
  · exact .refl s

theorem execDropExpiry_evolving (n : Nat) : Evolving s (execDropExpiry n s) := by
  refine live_evolving ?_
  split
  · split
    · split
      · split
        · exact State.endDrop_evolves _ _ s
        · exact .refl s
      · exact .refl s
    · exact .refl s
  · exact .refl s

theorem execStrokeRecordExpiry_evolving : Evolving s (execStrokeRecordExpiry s) := by
  refine live_evolving ?_
  split
  · split
    · exact .trans .elsewhere (State.consider_evolves _)
    · exact .refl s
  · exact .refl s

theorem execLaneReport_evolving (src : Nat) (p : List Byte) : Evolving s (execLaneReport src p s) := by
  refine live_evolving ?_
  split
  · exact State.report_evolves _ _ s
  · exact .refl s

theorem execSetLane_evolving (l k r c f w : Nat) : Evolving s (execSetLane tag l k r c f w s) := by
  refine live_evolving ?_
  dsimp only
  split
  · split
    · split
      · exact State.refuse_evolves _ _ _ s
      · exact Evolves.reply (.trans .elsewhere (State.testNearlyFull_evolves _ _)) _ _ _ _
    · exact State.refuse_evolves _ _ _ s
  · exact State.refuse_evolves _ _ _ s

theorem execLaneGoOpen_evolving (n : Nat) : Evolving s (execLaneGoOpen tag n s) := by
  refine live_evolving ?_
  dsimp only
  split
  · exact State.refuse_evolves _ _ _ s
  · split
    · split
      · refine Evolves.reply ?_ _ _ _ _
        split
        · exact State.changeLane_evolves _ _ s
        · exact State.returnTo_evolves _ _ s
      · exact State.refuse_evolves _ _ _ s
    · exact (State.returnTo_evolves _ _ s).reply _ _ _ _
    all_goals exact State.refuse_evolves _ _ _ s

theorem execLaneGoDrain_evolving (n : Nat) : Evolving s (execLaneGoDrain tag n s) := by
  refine live_evolving ?_
  dsimp only
  split
  · exact State.refuse_evolves _ _ _ s
  · split
    · exact (State.changeLane_evolves _ _ s).reply _ _ _ _
    · exact Evolves.reply .elsewhere _ _ _ _
    all_goals exact State.refuse_evolves _ _ _ s

theorem execLaneGoClearFault_evolving (n : Nat) : Evolving s (execLaneGoClearFault tag n s) := by
  refine live_evolving ?_
  dsimp only
  split
  · exact State.refuse_evolves _ _ _ s
  · split
    · split
      · exact State.refuse_evolves _ _ _ s
      · exact Evolves.reply (.trans .elsewhere (State.changeLane_evolves _ _ _)) _ _ _ _
    all_goals exact State.refuse_evolves _ _ _ s

theorem execMaskLane_evolving (l m : Nat) : Evolving s (execMaskLane tag l m s) := by
  refine live_evolving ?_
  dsimp only
  split
  · exact Evolves.reply .elsewhere _ _ _ _
  · exact State.refuse_evolves _ _ _ s

theorem execOverflowEmptied_evolving : Evolving s (execOverflowEmptied tag s) := by
  refine live_evolving ?_
  exact Evolves.reply .elsewhere _ _ _ _

/-! ## Counters and CORNER RESET -/

theorem execCommandUnknown_evolving (code : Nat) : Evolving s (execCommandUnknown tag code s) := by
  refine live_evolving ?_
  split
  · exact State.reply_evolves _ _ _ _ s
  · exact State.refuse_evolves _ _ _ s

theorem execReadCounters_evolving (g : Nat) : Evolving s (execReadCounters tag g s) := by
  refine live_evolving ?_
  split
  · exact State.reply_evolves _ _ _ _ s
  · exact State.refuse_evolves _ _ _ s

theorem execReadAndClear_evolving (g : Nat) : Evolving s (execReadAndClear tag g s) := by
  refine live_evolving ?_
  split
  · exact (Evolves.cleared s _).reply _ _ _ _
  · exact State.refuse_evolves _ _ _ s

theorem State.returnAll_evolves (r : ReturnReason) (ws : List Waiting) :
    Evolves s (ws.foldl (fun t w => t.returnWaiting r w) s) := by
  induction ws generalizing s with
  | nil => exact .refl s
  | cons w ws ih => exact (State.returnWaiting_evolves r w s).trans (ih _)

theorem State.resetReferrals_evolves : Evolves s s.resetReferrals := by
  unfold State.resetReferrals
  exact (State.returnAll_evolves s _ _).trans
    ((State.fewerItems_evolves _ [] fun _ h => nomatch h).trans .elsewhere)

theorem State.resetSessions_evolves : Evolves s s.resetSessions :=
  (Evolves.total s _ (Totals.discard_ok _)).trans
    ((Evolves.fewer _ [] (List.nil_sublist _)).trans .elsewhere)

theorem State.allToOverflow_evolves (i : Fin 12) (os : List Order) :
    Evolves s (os.foldl (fun t o => t.toOverflow i o) s) := by
  induction os generalizing s with
  | nil => exact .refl s
  | cons o os ih => exact (State.toOverflow_evolves i o s).trans (ih _)

theorem State.emptyPipe_evolves (i : Fin 12) : Evolves s (s.emptyPipe i) :=
  .trans .elsewhere (State.allToOverflow_evolves _ i _)

theorem State.closeLane_evolves (i : Fin 12) : Evolves s (s.closeLane i) := by
  unfold State.closeLane
  split
  · exact .refl s
  · exact .elsewhere

/-- An operation that evolves the books may be done for one lane after another. -/
theorem Evolves.foldLanes (f : State → Fin 12 → State) (h : ∀ s i, Evolves s (f s i))
    (is : List (Fin 12)) : Evolves s (is.foldl f s) := by
  induction is generalizing s with
  | nil => exact .refl s
  | cons i is ih => exact (h s i).trans (ih _)

theorem State.resetLanes_evolves : Evolves s s.resetLanes := by
  unfold State.resetLanes
  generalize allLanes = is
  refine .trans (t := { s with back := s.back.giveUp Frame.ofPipeline }) .elsewhere ?_
  exact (Evolves.foldLanes _ _ (fun t i => State.emptyPipe_evolves t i) is).trans
    ((Evolves.foldLanes _ _ (fun t i => State.closeLane_evolves t i) is).trans
      (Evolves.foldLanes _ _ (fun t i => State.testNearlyFull_evolves i t) is))

theorem State.resetVoucher_evolves : Evolves s s.resetVoucher := .elsewhere

theorem execCornerReset_evolving : Evolving s (execCornerReset tag s) := by
  refine live_evolving (Evolves.reply ?_ _ _ _ _)
  have hbooks : Evolves s s.resetReferrals.resetSessions.resetVoucher :=
    (State.resetReferrals_evolves s).trans ((State.resetSessions_evolves _).trans
      (State.resetVoucher_evolves _))
  unfold State.resetCorner
  refine (hbooks.trans (State.resetLanes_evolves _)).trans ?_
  generalize State.resetLanes _ = t
  exact .elsewhere

end

/-! ## Writes of the tables and the parameters -/

/-- The writes of the tables and the parameters, each with the commands that may make it (R5 to R8, R17,
R18, R21, R54, R146, R178, R180). -/
inductive TableChange : Instr → State → State → Prop
  | released (s : State) : TableChange .resetRelease s s.released
  | loaded (tag : Byte) (r : RawEntry) (e : Entry) (s : State) (h : checkEntry r = some e) :
      TableChange (.loadArticle tag r) s (s.loadEntry e).2
  | answered (tag : Byte) (n : Nat) (r : RawEntry) (e : Entry) (s : State)
      (h : checkEntry r = some e) : TableChange (.referralAnswerEntry tag n r) s (s.loadEntry e).2
  | removed (tag : Byte) (n span k : Nat) (sp : Span) (s : State) :
      TableChange (.removeArticle tag n span) s { s with articles := removeEntry k sp s.articles }
  | emptied (tag : Byte) (s : State) : TableChange (.clearTable tag) s { s with articles := [] }
  | keyLoaded (tag : Byte) (a b d : Nat) (keys : Vector (Option SchemeKey) 4) (s : State) :
      TableChange (.loadKey tag a b d) s { s with keys := keys }
  | keyCleared (tag : Byte) (a : Nat) (keys : Vector (Option SchemeKey) 4) (s : State) :
      TableChange (.clearKey tag a) s { s with keys := keys }
  | valued (tag : Byte) (c v : Nat) (h : 1 ≤ c ∧ c < 16) (s : State) :
      TableChange (.setClassValue tag c v) s { s with classValues := s.classValues.set c v h.2 }
  | parameter (tag : Byte) (n v : Nat) (p : Parameters) (s : State)
      (h : ParametersOk s → ParametersOk { s with params := p }) :
      TableChange (.setParameter tag n v) s { s with params := p }
  | stroke (tag : Byte) (k : StrokeParameter) (v : Nat) (p : Parameters) (s : State)
      (h : ParametersOk s → ParametersOk { s with params := p }) :
      TableChange (.setParameterStroke tag k v) s { s with params := p }

/-- The books go from `s` to `t` under a command: they evolve, after the write that it may make. -/
def BooksUnder (c : Instr) (s t : State) : Prop :=
  Evolves s t ∨ ∃ u, TableChange c s u ∧ Evolves u t

/-- A command is taken, and what it does to the books is known. -/
def TakesBooks (c : Instr) (s : State) (o : Host.Outcome State Fault Refusal) : Prop :=
  ∃ t, o = .next t ∧ BooksUnder c s t

theorem Evolving.takes {c : Instr} {s : State} {o : Host.Outcome State Fault Refusal}
    (h : Evolving s o) : TakesBooks c s o := by
  obtain ⟨t, ho, ht⟩ := h
  exact ⟨t, ho, .inl ht⟩

theorem live_takes {c : Instr} {f : State → State} {s : State} (h : BooksUnder c s (f s)) :
    TakesBooks c s (live f s) := by
  cases hr : s.resetAsserted
  · exact ⟨f s, live_released hr, h⟩
  · exact ⟨s, live_asserted hr, .inl (.refl s)⟩

/-- A write that is answered by a REPLY. -/
theorem TableChange.reply {c : Instr} {s u : State} (h : TableChange c s u) (tag : Byte) (code : Nat)
    (r : ReplyCode) (results : List Byte) : BooksUnder c s (u.reply tag code r results) :=
  .inr ⟨u, h, State.reply_evolves _ _ _ _ u⟩

theorem BooksUnder.reply (c : Instr) (s : State) (tag : Byte) (code : Nat) (r : ReplyCode)
    (results : List Byte) : BooksUnder c s (s.reply tag code r results) :=
  .inl (State.reply_evolves _ _ _ _ s)

theorem BooksUnder.refuse (c : Instr) (s : State) (tag : Byte) (code : Nat) (r : ReplyCode) :
    BooksUnder c s (s.refuse tag code r) := .inl (State.refuse_evolves _ _ _ s)

section
variable (s : State) (tag : Byte)

theorem execResetRelease_takes : TakesBooks .resetRelease s (execResetRelease s) := by
  refine ⟨_, rfl, ?_⟩
  split
  · refine .inr ⟨_, .released s, ?_⟩
    split <;> exact .elsewhere
  · exact .inl (.refl s)

theorem execLoadArticle_takes (r : RawEntry) :
    TakesBooks (.loadArticle tag r) s (execLoadArticle tag r s) := by
  refine live_takes ?_
  split
  · exact .reply _ s _ _ _ _
  · next e he =>
    have hload := TableChange.loaded tag r e s he
    split
    all_goals
      next t ht =>
      rw [ht] at hload
      exact hload.reply _ _ _ _

theorem execRemoveArticle_takes (n span : Nat) :
    TakesBooks (.removeArticle tag n span) s (execRemoveArticle tag n span s) := by
  refine live_takes ?_
  dsimp only
  split
  · exact .reply _ s _ _ _ _
  · split
    · split
      · exact .reply _ s _ _ _ _
      · exact (TableChange.removed tag n span _ _ s).reply _ _ _ _
    · exact .reply _ s _ _ _ _

theorem State.answerEntry_evolves (e : Option Entry) : Evolves s (s.answerEntry tag e) := by
  cases e
  · exact State.refuse_evolves _ _ _ s
  · exact State.reply_evolves _ _ _ _ s

theorem execReadArticleKey_evolving (n span : Nat) :
    Evolving s (execReadArticleKey tag n span s) := by
  refine live_evolving ?_
  split
  · exact State.refuse_evolves _ _ _ s
  · split
    · exact State.answerEntry_evolves s tag _
    · exact State.refuse_evolves _ _ _ s

theorem execReadArticleLookup_evolving (n : Nat) : Evolving s (execReadArticleLookup tag n s) := by
  refine live_evolving ?_
  split
  · exact State.answerEntry_evolves s tag _
  · exact State.refuse_evolves _ _ _ s

theorem execClearTable_takes : TakesBooks (.clearTable tag) s (execClearTable tag s) := by
  refine live_takes ?_
  split
  · exact (TableChange.emptied tag s).reply _ _ _ _
  · exact .reply _ s _ _ _ _

theorem execLoadKey_takes (a b d : Nat) :
    TakesBooks (.loadKey tag a b d) s (execLoadKey tag a b d s) := by
  refine live_takes ?_
  split
  · exact .refuse _ s _ _ _
  · split
    · split
      · exact (TableChange.keyLoaded tag a b d _ s).reply _ _ _ _
      · exact .refuse _ s _ _ _
    · exact .refuse _ s _ _ _

theorem execClearKey_takes (a : Nat) : TakesBooks (.clearKey tag a) s (execClearKey tag a s) := by
  refine live_takes ?_
  split
  · exact .refuse _ s _ _ _
  · split
    · exact (TableChange.keyCleared tag a _ s).reply _ _ _ _
    · exact .refuse _ s _ _ _

theorem execSetClassValue_takes (c v : Nat) :
    TakesBooks (.setClassValue tag c v) s (execSetClassValue tag c v s) := by
  refine live_takes ?_
  split
  · next hc =>
    split
    · exact (TableChange.valued tag c v hc s).reply _ _ _ _
    · exact .refuse _ s _ _ _
  · exact .refuse _ s _ _ _

theorem State.answerMiss_takes (n : Nat) (raw : RawEntry) (r : Referral) (e : Entry)
    (h : checkEntry raw = some e) :
    BooksUnder (.referralAnswerEntry tag n raw) s (s.answerMiss tag r e) := by
  have hload := TableChange.answered tag n raw e s h
  unfold State.answerMiss
  split
  · next t ht =>
    rw [ht] at hload
    exact .inr ⟨t, hload, State.refuse_evolves _ _ _ t⟩
  all_goals
    next t ht =>
    rw [ht] at hload
    exact .inr ⟨t, hload, ((State.freeReferral_evolves _ t).trans
      (State.endItems_evolves _ (State.resumeEntry_evolves _) _ _)).reply _ _ _ _⟩

theorem State.lateEntry_takes (n : Nat) (raw : RawEntry) (e : Entry) (h : checkEntry raw = some e) :
    BooksUnder (.referralAnswerEntry tag n raw) s (s.lateEntry tag e) := by
  have hload := TableChange.answered tag n raw e s h
  unfold State.lateEntry
  split
  all_goals
    next t ht =>
    rw [ht] at hload
    exact hload.reply _ _ _ _

theorem execReferralAnswerEntry_takes (n : Nat) (raw : RawEntry) :
    TakesBooks (.referralAnswerEntry tag n raw) s (execReferralAnswerEntry tag n raw s) := by
  refine live_takes ?_
  split
  · next e _ he =>
    split
    · exact State.lateEntry_takes s tag n raw e he
    · split
      · exact .refuse _ s _ _ _
      · exact State.answerMiss_takes s tag n raw _ e he
  · exact .refuse _ s _ _ _

theorem clamp_range {low high : Nat} (h : low ≤ high) (v : Nat) :
    low ≤ clamp low high v ∧ clamp low high v ≤ high := by unfold clamp; omega

theorem clampIdle_range (v : Nat) : clampIdle v = 0 ∨ (30 ≤ clampIdle v ∧ clampIdle v ≤ 600) := by
  unfold clampIdle
  split
  · exact .inl rfl
  · exact .inr (clamp_range (by omega) v)

theorem Parameters.set_ok {n v : Nat} {p : Parameters} {bs : List Byte}
    (h : s.params.set n v = some (p, bs)) (hok : ParametersOk s) :
    ParametersOk { s with params := p } := by
  obtain ⟨hcap, hidle, href, hdrop, hvoucher, hbudget, hwindow, hover⟩ := hok
  unfold Parameters.set at h
  split at h
  case h_8 => cases h
  case h_3 =>
    obtain ⟨d, -, hd⟩ := Option.map_eq_some_iff.mp h
    cases hd
    exact ⟨hcap, hidle, href, hdrop, hvoucher, hbudget, hwindow, hover⟩
  all_goals cases h
  · exact ⟨clamp_range (by omega) v, hidle, href, hdrop, hvoucher, hbudget, hwindow, hover⟩
  · exact ⟨hcap, clampIdle_range v, href, hdrop, hvoucher, hbudget, hwindow, hover⟩
  · exact ⟨hcap, hidle, clamp_range (by omega) v, hdrop, hvoucher, hbudget, hwindow, hover⟩
  · exact ⟨hcap, hidle, href, clamp_range (by omega) v, hvoucher, hbudget, hwindow, hover⟩
  · exact ⟨hcap, hidle, href, hdrop, clamp_range (by omega) v, hbudget, hwindow, hover⟩
  · exact ⟨hcap, hidle, href, hdrop, hvoucher, hbudget, hwindow, clamp_range (by omega) v⟩

/-- Both commands that set a stroke parameter write a parameter set that keeps its ranges (R146). -/
theorem State.setStroke_takes {c : Instr} (k : StrokeParameter) (v : Nat)
    (hc : ∀ p, (ParametersOk s → ParametersOk { s with params := p }) →
      TableChange c s { s with params := p }) : BooksUnder c s (s.setStroke tag k v) := by
  unfold State.setStroke
  split
  · split
    all_goals
      refine (hc _ ?_).reply _ _ _ _
      rintro ⟨hcap, hidle, href, hdrop, hvoucher, hbudget, hwindow, hover⟩
    · exact ⟨hcap, hidle, href, hdrop, hvoucher, clamp_range (by omega) v, hwindow, hover⟩
    · exact ⟨hcap, hidle, href, hdrop, hvoucher, hbudget, clamp_range (by omega) v, hover⟩
  · exact .refuse c s _ _ _

theorem execSetParameter_takes (n v : Nat) :
    TakesBooks (.setParameter tag n v) s (execSetParameter tag n v s) := by
  refine live_takes ?_
  split
  · exact State.setStroke_takes s tag _ _ fun p => .parameter tag _ v p s
  · exact State.setStroke_takes s tag _ _ fun p => .parameter tag _ v p s
  · split
    · next hset =>
      exact (TableChange.parameter tag _ v _ s (Parameters.set_ok s hset)).reply _ _ _ _
    · exact .refuse _ s _ _ _

theorem execSetParameterStroke_takes (k : StrokeParameter) (v : Nat) :
    TakesBooks (.setParameterStroke tag k v) s (execSetParameterStroke tag k v s) :=
  live_takes (State.setStroke_takes s tag k v fun p => .stroke tag k v p s)

/-- What any command does to the books. -/
theorem exec_takesBooks (c : Instr) : TakesBooks c s (exec c s) := by
  cases c with
  | hardwareReset => exact Evolving.takes ⟨_, rfl, .elsewhere⟩
  | resetRelease => exact execResetRelease_takes s
  | feedfltAssert => exact Evolving.takes ⟨_, rfl, execFeedflt_evolving s true⟩
  | feedfltClear => exact Evolving.takes ⟨_, rfl, execFeedflt_evolving s false⟩
  | frameGapTimeout l => exact (live_evolving .elsewhere).takes
  | frameDiscard l cause => exact (live_evolving (f := fun s => s) (.refl s)).takes
  | frameSendStart l => exact (live_evolving .elsewhere).takes
  | sendCollision l => exact (execSendCollision_evolving s l).takes
  | backoffExpiry l => exact (live_evolving .elsewhere).takes
  | frameSent l => exact (execFrameSent_evolving s l).takes
  | heldFramePlaced l => exact (execHeldFramePlaced_evolving s l).takes
  | announce src p => exact (execAnnounce_evolving s src p).takes
  | silenceExpiry n => exact (execSilenceExpiry_evolving s n).takes
  | itemReport src p => exact (execItemReport_evolving s src p).takes
  | itemWithdraw src p => exact (execItemWithdraw_evolving s src p).takes
  | sessionClose src p => exact (execSessionClose_evolving s src p).takes
  | idleExpiry n => exact (execIdleExpiry_evolving s n).takes
  | referralExpiry n => exact (execReferralExpiry_evolving s n).takes
  | requestAccepted src p => exact (execRequestAccepted_evolving s src p).takes
  | voucherStatus src p => exact (execVoucherStatus_evolving s src p).takes
  | replyTimerExpiry => exact (execReplyTimerExpiry_evolving s).takes
  | dropDone src p => exact (execDropDone_evolving s src p).takes
  | dropExpiry n => exact (execDropExpiry_evolving s n).takes
  | strokeRecordExpiry => exact (execStrokeRecordExpiry_evolving s).takes
  | laneReport src p => exact (execLaneReport_evolving s src p).takes
  | commandUnknown tag code => exact (execCommandUnknown_evolving s tag code).takes
  | loadArticle tag r => exact execLoadArticle_takes s tag r
  | removeArticle tag n span => exact execRemoveArticle_takes s tag n span
  | readArticleKey tag n span => exact (execReadArticleKey_evolving s tag n span).takes
  | readArticleLookup tag n => exact (execReadArticleLookup_evolving s tag n).takes
  | clearTable tag => exact execClearTable_takes s tag
  | loadKey tag a b d => exact execLoadKey_takes s tag a b d
  | clearKey tag a => exact execClearKey_takes s tag a
  | setClassValue tag c v => exact execSetClassValue_takes s tag c v
  | referralAnswerEntry tag n r => exact execReferralAnswerEntry_takes s tag n r
  | referralAnswerDecide tag n v c r =>
    exact (execReferralAnswerDecide_evolving s tag n v c r).takes
  | readSessionRecord tag n => exact (execReadSessionRecord_evolving s tag n).takes
  | readSessionLines tag n k => exact (execReadSessionLines_evolving s tag n k).takes
  | discardSession tag n => exact (execDiscardSession_evolving s tag n).takes
  | voucherControlResume tag n => exact (execVoucherControlResume_evolving s tag n).takes
  | voucherControlRestart tag n => exact (execVoucherControlRestart_evolving s tag n).takes
  | voucherControlCancel tag n => exact (execVoucherControlCancel_evolving s tag n).takes
  | voucherControlAbort tag n => exact (execVoucherControlAbort_evolving s tag n).takes
  | setLane tag l k r c f w => exact (execSetLane_evolving s tag l k r c f w).takes
  | laneGoOpen tag n => exact (execLaneGoOpen_evolving s tag n).takes
  | laneGoDrain tag n => exact (execLaneGoDrain_evolving s tag n).takes
  | laneGoClearFault tag n => exact (execLaneGoClearFault_evolving s tag n).takes
  | maskLane tag l m => exact (execMaskLane_evolving s tag l m).takes
  | overflowEmptied tag => exact (execOverflowEmptied_evolving s tag).takes
  | readStatusStation tag n => exact (execReadStatusStation_evolving s tag n).takes
  | readStatusLane tag n => exact (execReadStatusLane_evolving s tag n).takes
  | readCounters tag g => exact (execReadCounters_evolving s tag g).takes
  | readAndClear tag g => exact (execReadAndClear_evolving s tag g).takes
  | stationGoListen tag n => exact (execStationGoListen_evolving s tag n).takes
  | stationGoOperate tag n => exact (execStationGoOperate_evolving s tag n).takes
  | stationGoPause tag n => exact (execStationGoPause_evolving s tag n).takes
  | stationGoOff tag n => exact (execStationGoOff_evolving s tag n).takes
  | setParameter tag n v => exact execSetParameter_takes s tag n v
  | setParameterStroke tag k v => exact execSetParameterStroke_takes s tag k v
  | cornerReset tag => exact (execCornerReset_evolving s tag).takes
  | readKeys tag | readClassValues tag | readReferrals tag | readSessionSummary tag
  | readVoucher tag | readBudget tag | readParameters tag =>
    exact (live_evolving (State.reply_evolves _ _ _ _ s)).takes

end

/-- What a step does to the books: that of a command on the state without its front command, which has the
same books, or nothing. -/
theorem step_books {s t : State} (h : step s = .next t) :
    ∃ c u, u.books = s.books ∧ BooksUnder c u t := by
  unfold step at h
  split at h
  · next c rest _ =>
    obtain ⟨t', hexec, hbooks⟩ := exec_takesBooks { s with pending := rest } c
    rw [hexec] at h
    cases h
    exact ⟨c, { s with pending := rest }, rfl, hbooks⟩
  · cases h
    refine ⟨.hardwareReset, s, rfl, .inl (.elsewhere ?_)⟩
    unfold State.tick
    dsimp only
    split <;> rfl

end Sys2Proof.Machine
end

section
/-! SUPPORT. What the elementary changes of the books (`Evolves`) keep: the tables and the parameters, the
ranges of the clearing counters, the entries that the part holds, and the law of the Session Table. -/

namespace Sys2Proof.Machine

-- One theorem after another: many that wait for the kernel at once take threads and memory.
set_option Elab.async false

/-! ## Tables and parameters -/

/-- `t` has the tables and the parameters of `s`. -/
structure SameTables (s t : State) : Prop where
  articles : t.articles = s.articles
  keys : t.keys = s.keys
  classValues : t.classValues = s.classValues
  params : t.params = s.params

theorem Evolves.sameTables {s t : State} (h : Evolves s t) : SameTables s t := by
  induction h with
  | elsewhere h =>
    simp only [State.books, Prod.mk.injEq] at h
    obtain ⟨hparams, harticles, hkeys, hvalues, -⟩ := h
    exact ⟨harticles, hkeys, hvalues, hparams⟩
  | trans _ _ h k =>
    exact ⟨k.articles.trans h.articles, k.keys.trans h.keys, k.classValues.trans h.classValues,
      k.params.trans h.params⟩
  | cleared s g => cases g <;> exact ⟨rfl, rfl, rfl, rfl⟩
  | _ => exact ⟨rfl, rfl, rfl, rfl⟩

/-! ## Clearing counters -/

theorem Row.get_ok {r : Row} (h : r.Ok) (c : Column) : (r.get c).Ok := by
  obtain ⟨hpet, halu, hsteel, hglass, hcrate⟩ := h
  cases c <;> assumption

theorem Row.set_ok {r : Row} (h : r.Ok) (c : Column) {x : Cell} (hx : x.Ok) : (r.set c x).Ok := by
  obtain ⟨hpet, halu, hsteel, hglass, hcrate⟩ := h
  cases c
  · exact ⟨hx, halu, hsteel, hglass, hcrate⟩
  · exact ⟨hpet, hx, hsteel, hglass, hcrate⟩
  · exact ⟨hpet, halu, hx, hglass, hcrate⟩
  · exact ⟨hpet, halu, hsteel, hx, hcrate⟩
  · exact ⟨hpet, halu, hsteel, hglass, hx⟩

theorem Row.zero_ok : Row.zero.Ok := by simp [Row.Ok, Row.zero, Cell.Ok, Cell.zero]

theorem Totals.zero_ok : Totals.zero.Ok := by simp [Totals.Ok, Totals.zero]

/-- A row is written with one that is in its ranges. -/
theorem rows_set_ok {rows : Vector Row 5} (h : ∀ q : Fin 5, (rows[q]).Ok) (r : Fin 5) {x : Row}
    (hx : x.Ok) (q : Fin 5) : ((rows.set r.val x r.isLt)[q]).Ok := by
  by_cases hq : r = q
  · subst hq; simpa using hx
  · have hne : r.val ≠ q.val := fun hv => hq (Fin.ext hv)
    simpa [Vector.getElem_set, hne] using h q

theorem Evolves.countersOk {s t : State} (h : Evolves s t) (hs : CountersOk s) : CountersOk t := by
  induction h with
  | elsewhere h =>
    simp only [State.books, Prod.mk.injEq] at h
    obtain ⟨-, -, -, -, -, -, hrows, htotals, hreturned⟩ := h
    unfold CountersOk
    rwa [hrows, htotals, hreturned]
  | trans _ _ h k => exact k (h hs)
  | total s g hg => exact ⟨hs.1, hg _ hs.2.1, hs.2.2⟩
  | cell s r c f hf => exact ⟨rows_set_ok hs.1 r (Row.set_ok (hs.1 r) c (hf _ (Row.get_ok (hs.1 r) c))), hs.2⟩
  | counted s r =>
    refine ⟨hs.1, hs.2.1, fun i => ?_⟩
    by_cases hi : r.index.val = i.val
    · simpa [Vector.getElem_set, hi] using riseCount_le _ _
    · simpa [Vector.getElem_set, hi] using hs.2.2 i
  | cleared s g =>
    cases g with
    | row r => exact ⟨rows_set_ok hs.1 r Row.zero_ok, hs.2⟩
    | totals => exact ⟨hs.1, Totals.zero_ok, hs.2.2⟩
    | returned => exact ⟨hs.1, hs.2.1, fun i => by simp [State.clearGroup]⟩
  | added s a x => exact ⟨hs.1, Totals.excess_ok _ _ hs.2.1, hs.2.2⟩
  | session | fewer | opened | records => exact hs

/-! ## Entries that the part holds -/

theorem Evolves.holds {s t : State} (h : Evolves s t) {e : Entry} (he : t.Holds e) : s.Holds e := by
  induction h with
  | elsewhere h =>
    simp only [State.books, Prod.mk.injEq] at h
    obtain ⟨-, harticles, -, -, hreferrals, -⟩ := h
    unfold State.Holds at he
    rwa [harticles, hreferrals] at he
  | trans _ _ h k => exact h (k he)
  | cleared s g => cases g <;> exact he
  | records s rs h => exact h e he
  | _ => exact he

theorem Evolves.entriesOk {s t : State} (h : Evolves s t) (hs : EntriesOk s) : EntriesOk t :=
  (EntriesOk_iff t).mpr fun e he => (EntriesOk_iff s).mp hs e (h.holds he)

/-! ## Voucher lines -/

/-- Voucher lines stand in order of class, and none has value 0 (R43). -/
def LinesOk (ls : List VoucherLine) : Prop :=
  (ls.map fun l => l.cls.val).Pairwise (· < ·) ∧ ∀ l ∈ ls, 0 < l.value

theorem LinesOk_cons {l : VoucherLine} {ls : List VoucherLine} :
    LinesOk (l :: ls) ↔ (∀ m ∈ ls, l.cls < m.cls) ∧ 0 < l.value ∧ LinesOk ls := by
  simp only [LinesOk, List.map_cons, List.pairwise_cons, List.forall_mem_map, List.forall_mem_cons,
    Fin.lt_def]
  tauto

theorem addLine_cls {cls : Fin 16} {n v : Nat} {ls : List VoucherLine} {l : VoucherLine}
    (h : l ∈ addLine cls n v ls) : l.cls = cls ∨ ∃ m ∈ ls, m.cls = l.cls := by
  induction ls with
  | nil =>
    simp only [addLine] at h
    split at h
    · cases h
    · exact .inl (by rw [List.mem_singleton.mp h])
  | cons m ms ih =>
    simp only [addLine] at h
    split at h
    · split at h
      · exact .inr ⟨l, h, rfl⟩
      · rcases List.mem_cons.mp h with rfl | h
        · exact .inl rfl
        · exact .inr ⟨l, h, rfl⟩
    · split at h
      · rcases List.mem_cons.mp h with rfl | h
        · exact .inr ⟨m, by simp, rfl⟩
        · exact .inr ⟨l, by simp [h], rfl⟩
      · rcases List.mem_cons.mp h with rfl | h
        · exact .inr ⟨l, by simp, rfl⟩
        · rcases ih h with hl | ⟨k, hk, hl⟩
          · exact .inl hl
          · exact .inr ⟨k, by simp [hk], hl⟩

theorem addLine_linesOk (cls : Fin 16) (n v : Nat) {ls : List VoucherLine} (h : LinesOk ls) :
    LinesOk (addLine cls n v ls) := by
  induction ls with
  | nil =>
    unfold addLine
    split
    · exact h
    · next hv => exact LinesOk_cons.mpr ⟨by simp, Nat.pos_of_ne_zero hv, h⟩
  | cons m ms ih =>
    obtain ⟨hfirst, hpos, hrest⟩ := LinesOk_cons.mp h
    unfold addLine
    split
    · next hlt =>
      split
      · exact h
      · next hv =>
        refine LinesOk_cons.mpr ⟨?_, Nat.pos_of_ne_zero hv, h⟩
        rintro l hl
        rcases List.mem_cons.mp hl with rfl | hl
        · exact hlt
        · exact hlt.trans (hfirst l hl)
    · next hge =>
      split
      · exact LinesOk_cons.mpr ⟨hfirst, Nat.add_pos_left hpos v, hrest⟩
      · next hne =>
        refine LinesOk_cons.mpr ⟨fun l hl => ?_, hpos, ih hrest⟩
        rcases addLine_cls hl with hl | ⟨k, hk, hl⟩
        · rw [hl]; omega
        · rw [← hl]; exact hfirst k hk

/-- The sum of the values of voucher lines. -/
def lineSum (ls : List VoucherLine) : Nat := (ls.map VoucherLine.value).sum

theorem addLine_sum (cls : Fin 16) (n v : Nat) (ls : List VoucherLine) :
    lineSum (addLine cls n v ls) = lineSum ls + v := by
  induction ls with
  | nil => unfold addLine; split <;> simp_all [lineSum]
  | cons m ms ih =>
    simp only [lineSum, List.map_cons, List.sum_cons] at ih ⊢
    unfold addLine
    split
    · split
      · simp_all
      · simp only [List.map_cons, List.sum_cons]; omega
    · split
      · simp only [List.map_cons, List.sum_cons]; omega
      · simp only [List.map_cons, List.sum_cons, ih]; omega

theorem allocate_linesOk (a : Accept) (own bottle : Nat) (earned : Bool) {ls : List VoucherLine}
    (h : LinesOk ls) : LinesOk (allocate a own bottle earned ls) := by
  have hown : LinesOk (if a.credit then addLine a.cls 1 own ls else ls) := by
    split
    · exact addLine_linesOk _ _ _ h
    · exact h
  unfold allocate
  split
  · exact hown
  · split
    · dsimp only
      split
      · split
        · exact addLine_linesOk _ _ _ hown
        · exact hown
      · exact hown
    · exact h

/-- Shares within the two portions of the item credit all go to the lines (R37, R43). -/
theorem State.allocate_sum (s : State) (a : Accept) {own bottle : Nat} (ls : List VoucherLine)
    (hown : own ≤ s.ownPortion a) (hbottle : bottle ≤ s.bottlePortion a) :
    lineSum (allocate a own bottle (decide (0 < s.itemCredit a)) ls) = lineSum ls + own + bottle := by
  have hitem : lineSum (if a.credit then addLine a.cls 1 own ls else ls) = lineSum ls + own := by
    split
    · exact addLine_sum _ _ _ _
    · next hc =>
      rw [State.ownPortion, if_neg hc] at hown
      omega
  unfold State.bottlePortion at hbottle
  unfold allocate
  split
  · next hb =>
    rw [hb] at hbottle
    dsimp only at hbottle
    rw [hitem]
    omega
  · next b hb =>
    rw [hb] at hbottle
    dsimp only at hbottle ⊢
    split
    · split
      · next e he =>
        rw [he] at hbottle
        dsimp only at hbottle
        split
        · rw [addLine_sum, hitem]
        · next hearns =>
          rw [if_neg hearns] at hbottle
          rw [hitem]
          omega
      · next he =>
        rw [he] at hbottle
        dsimp only at hbottle
        rw [hitem]
        omega
    · next hzero =>
      have hsum : s.ownPortion a + s.bottlePortion a = 0 := by
        simpa [State.itemCredit] using hzero
      have hb0 : s.bottlePortion a = 0 := by omega
      simp only [State.bottlePortion, hb] at hb0
      omega

/-! ## The Session Table -/

theorem Session.Ok_iff (x : Session) : x.Ok ↔ x.credit ≤ x.cap ∧ x.credit = lineSum x.lines ∧
    x.accepted ≤ Config.maxAccepted ∧ LinesOk x.lines := by
  simp only [Session.Ok, LinesOk, lineSum]

theorem Session.Ok_of_account {x y : Session} (h : y.account = x.account) (hx : x.Ok) : y.Ok := by
  simp only [Session.account, Prod.mk.injEq] at h
  obtain ⟨-, hcap, hcredit, haccepted, hlines⟩ := h
  unfold Session.Ok
  rwa [hcap, hcredit, haccepted, hlines]

theorem Session.number_of_account {x y : Session} (h : y.account = x.account) :
    y.number = x.number := congrArg Prod.fst h

/-- Two records of one number are one record (R61). -/
theorem session_unique {xs : List Session} (h : (xs.map Session.number).Pairwise (· < ·))
    {x y : Session} (hx : x ∈ xs) (hy : y ∈ xs) (hn : x.number = y.number) : x = y :=
  List.inj_on_of_nodup_map (h.imp Nat.ne_of_lt) hx hy hn

/-- Records changed one by one, each with its number and its law kept, keep the law of the table. -/
theorem SessionsOk_map {s t : State} (f : Session → Session) (ht : t.sessions = s.sessions.map f)
    (hnumber : ∀ x ∈ s.sessions, (f x).number = x.number) (hok : ∀ x ∈ s.sessions, (f x).Ok)
    (hs : SessionsOk s) : SessionsOk t := by
  obtain ⟨hlength, hsorted, -⟩ := hs
  unfold SessionsOk
  rw [ht, List.length_map, List.map_map]
  refine ⟨hlength, ?_, by simpa using hok⟩
  rwa [List.map_congr_left (g := Session.number) (by simpa using hnumber)]

theorem mem_insertSession (x : Session) (xs : List Session) (y : Session) :
    y ∈ insertSession x xs ↔ y = x ∨ y ∈ xs := by
  induction xs with
  | nil => simp [insertSession]
  | cons z zs ih =>
    unfold insertSession
    split
    · simp
    · simp only [List.mem_cons, ih]
      tauto

theorem insertSession_length (x : Session) (xs : List Session) :
    (insertSession x xs).length = xs.length + 1 := by
  induction xs with
  | nil => rfl
  | cons z zs ih => unfold insertSession; split <;> simp [ih]

theorem insertSession_sorted {x : Session} {xs : List Session}
    (h : (xs.map Session.number).Pairwise (· < ·)) (hx : x.number ∉ xs.map Session.number) :
    ((insertSession x xs).map Session.number).Pairwise (· < ·) := by
  induction xs with
  | nil => simp [insertSession]
  | cons z zs ih =>
    simp only [List.map_cons, List.pairwise_cons, List.forall_mem_map] at h
    obtain ⟨hfirst, hrest⟩ := h
    simp only [List.map_cons, List.mem_cons, not_or] at hx
    unfold insertSession
    split
    · next hlt =>
      simp only [List.map_cons, List.pairwise_cons, List.mem_cons, List.forall_mem_map,
        forall_eq_or_imp]
      exact ⟨⟨hlt, fun y hy => hlt.trans (hfirst y hy)⟩, hfirst, hrest⟩
    · next hge =>
      simp only [List.map_cons, List.pairwise_cons, List.forall_mem_map, mem_insertSession,
        forall_eq_or_imp]
      exact ⟨⟨by omega, hfirst⟩, ih hrest hx.2⟩

theorem newSession_ok (n : Nat) (st : Fin 8) (cap now : Nat) : (newSession n st cap now).Ok := by
  simp [Session.Ok, newSession]

/-- The session add keeps the law of its record (R42, R43). -/
theorem State.sessionAdd_ok (s : State) (a : Accept) {x : Session} (hx : x.Ok)
    (hroom : sessionFull x (s.itemCredit a) = false) {r own : Nat}
    (hr : r = min (x.credit + s.itemCredit a) x.cap)
    (hown : own = min (r - x.credit) (s.ownPortion a)) :
    ({ x with credit := r, accepted := x.accepted + 1,
              lines := allocate a own (r - x.credit - own) (decide (0 < s.itemCredit a)) x.lines } :
      Session).Ok := by
  obtain ⟨hcap, hsum, -, hlines⟩ := (Session.Ok_iff x).mp hx
  have haccepted : x.accepted < Config.maxAccepted := by
    simpa using (Bool.or_eq_false_iff.mp hroom).1
  have hc : s.itemCredit a = s.ownPortion a + s.bottlePortion a := rfl
  refine (Session.Ok_iff _).mpr ⟨by dsimp only; omega, ?_, haccepted, allocate_linesOk _ _ _ _ hlines⟩
  dsimp only
  rw [State.allocate_sum s a x.lines (by omega) (by omega), ← hsum]
  omega

theorem Evolves.sessionsOk {s t : State} (h : Evolves s t) (hs : SessionsOk s) : SessionsOk t := by
  induction h with
  | elsewhere h =>
    simp only [State.books, Prod.mk.injEq] at h
    obtain ⟨-, -, -, -, -, hsessions, -⟩ := h
    unfold SessionsOk
    rwa [hsessions]
  | trans _ _ h k => exact k (h hs)
  | session s n f hf =>
    refine SessionsOk_map (fun x => if x.number = n then f x else x) rfl ?_ ?_ hs
    all_goals
      intro x hx
      split
    · exact Session.number_of_account (hf x)
    · rfl
    · exact Session.Ok_of_account (hf x) (hs.2.2 x hx)
    · exact hs.2.2 x hx
  | fewer s xs h =>
    obtain ⟨hlength, hsorted, hok⟩ := hs
    exact ⟨h.length_le.trans hlength, hsorted.sublist (h.map _), fun x hx => hok x (h.subset hx)⟩
  | opened s st hroom =>
    obtain ⟨hlength, hsorted, hok⟩ := hs
    have hfew : (s.sessions.map Session.number).length < 65535 := by
      rw [List.length_map]; exact Nat.lt_of_le_of_lt hlength (by decide)
    refine ⟨?_, insertSession_sorted hsorted (freshNumber_not_mem _ _ _ hfew), fun x hx => ?_⟩
    · show (insertSession _ _).length ≤ _
      rw [insertSession_length]
      exact hroom
    · rcases (mem_insertSession _ _ x).mp hx with rfl | hx
      · exact newSession_ok _ _ _ _
      · exact hok x hx
  | added s a x hx hroom =>
    have hmem : x ∈ s.sessions := List.mem_of_find?_eq_some hx
    have hok : x.Ok := hs.2.2 x hmem
    have hcap : x.credit ≤ x.cap := hok.1
    refine SessionsOk_map _ rfl ?_ ?_ hs
    all_goals
      intro y hy
      dsimp only
      split
    · rfl
    · rfl
    · next hn =>
      rw [session_unique hs.2.1 hy hmem hn]
      have hamount : s.itemCredit a - (x.credit + s.itemCredit a -
          min (x.credit + s.itemCredit a) x.cap) =
          min (x.credit + s.itemCredit a) x.cap - x.credit := by omega
      rw [hamount]
      exact State.sessionAdd_ok s a hok hroom rfl rfl
    · exact hs.2.2 y hy
  | cleared s g => cases g <;> exact hs
  | total | cell | counted | records => exact hs

end Sys2Proof.Machine
end

section
/-! SUPPORT. The Article Table: what storing and removing an entry leave, said once (R3, R5, R6), and what
the checks of a carried entry come to (R1, R2, R4). -/

namespace Sys2Proof.Machine

-- One theorem after another: many that wait for the kernel at once take threads and memory.
set_option Elab.async false

/-! ## The table's form and its entries -/

theorem tableWf_iff (t : List Entry) : tableWf t = true ↔ (t.map Entry.key).Pairwise (· < ·) :=
  decide_eq_true_iff

theorem tableWf_cons {x : Entry} {xs : List Entry} :
    tableWf (x :: xs) = true ↔ (∀ y ∈ xs, x.key < y.key) ∧ tableWf xs = true := by
  simp only [tableWf_iff, List.map_cons, List.pairwise_cons, List.forall_mem_map]

theorem findEntry_cons (x : Entry) (xs : List Entry) (n : Nat) (sp : Span) :
    findEntry (x :: xs) n sp = if x.key = keyCode n sp then some x else findEntry xs n sp := by
  by_cases h : x.key = keyCode n sp <;> simp [findEntry, h]

theorem findEntry_none_iff {t : List Entry} {n : Nat} {sp : Span} :
    findEntry t n sp = none ↔ ∀ x ∈ t, x.key ≠ keyCode n sp := by
  simp [findEntry, List.find?_eq_none]

/-! ## Storing -/

theorem mem_storeEntry {e x : Entry} {t : List Entry} (h : x ∈ storeEntry e t) : x = e ∨ x ∈ t := by
  induction t with
  | nil => exact .inl (List.mem_singleton.mp h)
  | cons y ys ih =>
    unfold storeEntry at h
    split at h
    · exact List.mem_cons.mp h
    · split at h
      · exact (List.mem_cons.mp h).imp id (List.mem_cons_of_mem y)
      · rcases List.mem_cons.mp h with rfl | h
        · exact .inr (List.mem_cons_self ..)
        · exact (ih h).imp id (List.mem_cons_of_mem y)

theorem storeEntry_wf (e : Entry) {t : List Entry} (h : tableWf t = true) :
    tableWf (storeEntry e t) = true := by
  induction t with
  | nil => simp [storeEntry, tableWf]
  | cons x xs ih =>
    obtain ⟨hfirst, hrest⟩ := tableWf_cons.mp h
    unfold storeEntry
    split
    · next hlt =>
      refine tableWf_cons.mpr ⟨fun y hy => ?_, h⟩
      rcases List.mem_cons.mp hy with rfl | hy
      · exact hlt
      · exact hlt.trans (hfirst y hy)
    · split
      · next heq => exact tableWf_cons.mpr ⟨fun y hy => heq ▸ hfirst y hy, hrest⟩
      · refine tableWf_cons.mpr ⟨fun y hy => ?_, ih hrest⟩
        rcases mem_storeEntry hy with rfl | hy
        · omega
        · exact hfirst y hy

/-- The stored entry is found under its key, and every other key keeps its entry (R5). -/
theorem findEntry_storeEntry (e : Entry) (t : List Entry) (n : Nat) (sp : Span) :
    findEntry (storeEntry e t) n sp =
      if keyCode n sp = e.key then some e else findEntry t n sp := by
  induction t with
  | nil => simp only [storeEntry, findEntry_cons, eq_comm]
  | cons x xs ih =>
    unfold storeEntry
    split
    · simp only [findEntry_cons e, eq_comm]
    · split
      · next heq => simp only [findEntry_cons, heq, eq_comm]; split <;> rfl
      · next hne =>
        simp only [findEntry_cons x, ih]
        split
        · next hx => rw [if_neg (hx ▸ fun hk => hne hk.symm)]
        · rfl

theorem storeEntry_length_new {e : Entry} {t : List Entry} (h : findEntry t e.number e.span = none) :
    (storeEntry e t).length = t.length + 1 := by
  induction t with
  | nil => rfl
  | cons x xs ih =>
    have hne : ∀ y ∈ x :: xs, y.key ≠ e.key := findEntry_none_iff.mp h
    unfold storeEntry
    split
    · rfl
    · rw [if_neg (Ne.symm (hne x (by simp)))]
      rw [List.length_cons, ih (findEntry_none_iff.mpr fun y hy => hne y (by simp [hy])),
        List.length_cons]

theorem storeEntry_length_replaced {e : Entry} {t : List Entry} (hwf : tableWf t = true)
    (h : (findEntry t e.number e.span).isSome = true) : (storeEntry e t).length = t.length := by
  induction t with
  | nil => simp [findEntry] at h
  | cons x xs ih =>
    obtain ⟨hfirst, hrest⟩ := tableWf_cons.mp hwf
    rw [findEntry_cons] at h
    unfold storeEntry
    split at h
    · next heq =>
      have hkey : e.key = x.key := heq.symm
      rw [if_neg (by omega), if_pos hkey]
      rfl
    · obtain ⟨y, hy⟩ := Option.isSome_iff_exists.mp h
      have hkey : y.key = keyCode e.number e.span := by simpa using List.find?_some hy
      have hlt : x.key < keyCode e.number e.span := hkey ▸ hfirst y (findEntry_mem hy)
      change x.key < e.key at hlt
      rw [if_neg (by omega), if_neg (by omega), List.length_cons, ih hrest h, List.length_cons]

/-! ## Removing -/

theorem findEntry_removeEntry (t : List Entry) (k : Nat) (sq : Span) (n : Nat) (sp : Span) :
    findEntry (removeEntry k sq t) n sp =
      if keyCode n sp = keyCode k sq then none else findEntry t n sp := by
  induction t with
  | nil => simp [removeEntry, findEntry]
  | cons x xs ih =>
    unfold removeEntry at ih ⊢
    rw [List.filter_cons, findEntry_cons]
    by_cases hx : x.key = keyCode k sq
    · simp only [hx, bne_self_eq_false, Bool.false_eq_true, if_false, ih]
      split
      · rfl
      · next hne => rw [if_neg (Ne.symm hne)]
    · simp only [bne_iff_ne, ne_eq, hx, not_false_eq_true, if_true, findEntry_cons, ih]
      split
      · next hk => rw [if_neg (hk ▸ hx)]
      · rfl

theorem removeEntry_length {t : List Entry} {n : Nat} {sp : Span} (hwf : tableWf t = true)
    (h : (findEntry t n sp).isSome = true) : (removeEntry n sp t).length = t.length - 1 := by
  induction t with
  | nil => simp [findEntry] at h
  | cons x xs ih =>
    obtain ⟨hfirst, hrest⟩ := tableWf_cons.mp hwf
    rw [findEntry_cons] at h
    unfold removeEntry at ih ⊢
    rw [List.filter_cons]
    split at h
    · next hx =>
      have hall : xs.filter (·.key != keyCode n sp) = xs :=
        List.filter_eq_self.mpr fun y hy => by
          have := hfirst y hy
          simp only [bne_iff_ne]
          omega
      simp [hx, hall]
    · next hx =>
      obtain ⟨y, hy⟩ := Option.isSome_iff_exists.mp h
      have hpos := List.length_pos_of_mem (findEntry_mem hy)
      simp only [bne_iff_ne, ne_eq, hx, not_false_eq_true, if_true, List.length_cons, ih hrest h]
      omega

theorem removeEntry_wf (n : Nat) (sp : Span) {t : List Entry} (h : tableWf t = true) :
    tableWf (removeEntry n sp t) = true :=
  (tableWf_iff _).mpr (((tableWf_iff t).mp h).sublist (List.filter_sublist.map _))

/-! ## LOAD ARTICLE's store -/

theorem State.loadEntry_replaced {e : Entry} {s : State}
    (h : (findEntry s.articles e.number e.span).isSome = true) :
    s.loadEntry e = (.replaced, { s with articles := storeEntry e s.articles }) := by
  obtain ⟨x, hx⟩ := Option.isSome_iff_exists.mp h
  simp only [State.loadEntry, hx]

theorem State.loadEntry_new {e : Entry} {s : State}
    (h : findEntry s.articles e.number e.span = none) (hroom : s.articles.length < Config.maxEntries) :
    s.loadEntry e = (.new, { s with articles := storeEntry e s.articles }) := by
  simp only [State.loadEntry, h, if_pos hroom]

theorem State.loadEntry_full {e : Entry} {s : State}
    (h : findEntry s.articles e.number e.span = none)
    (hroom : ¬s.articles.length < Config.maxEntries) : s.loadEntry e = (.full, s) := by
  simp only [State.loadEntry, h, if_neg hroom]

/-- Storing changes the table at most, and to the table with the entry stored in it. -/
theorem State.loadEntry_cases (e : Entry) (s : State) :
    (s.loadEntry e).2 = s ∨ (s.loadEntry e).2 = { s with articles := storeEntry e s.articles } := by
  unfold State.loadEntry
  split
  · exact .inr rfl
  · split
    · exact .inr rfl
    · exact .inl rfl

theorem State.loadEntry_articlesOk (e : Entry) {s : State} (h : ArticlesOk s) :
    ArticlesOk (s.loadEntry e).2 := by
  obtain ⟨hwf, hlength⟩ := h
  cases hfind : findEntry s.articles e.number e.span with
  | some x =>
    have hsome : (findEntry s.articles e.number e.span).isSome = true := by rw [hfind]; rfl
    rw [State.loadEntry_replaced hsome]
    exact ⟨storeEntry_wf e hwf, (storeEntry_length_replaced hwf hsome).symm ▸ hlength⟩
  | none =>
    by_cases hroom : s.articles.length < Config.maxEntries
    · rw [State.loadEntry_new hfind hroom]
      exact ⟨storeEntry_wf e hwf, (storeEntry_length_new hfind).symm ▸ hroom⟩
    · rw [State.loadEntry_full hfind hroom]
      exact ⟨hwf, hlength⟩

/-! ## The checks of a carried entry (R4) -/

theorem normalise_le (n : Nat) (sp : Span) : normalise n sp ≤ n := by
  cases sp <;> simp only [normalise] <;> omega

theorem normalise_idem (n : Nat) (sp : Span) : normalise (normalise n sp) sp = normalise n sp := by
  cases sp <;> simp only [normalise] <;> omega

theorem Span.ofCode_isSome (c : Nat) : (Span.ofCode c).isSome = true ↔ c ≤ 2 := by
  unfold Span.ofCode; split <;> simp_all; omega

theorem Span.code_of_ofCode {c : Nat} {sp : Span} (h : Span.ofCode c = some sp) : sp.code = c := by
  unfold Span.ofCode at h
  split at h <;> cases h <;> rfl

theorem CheckMode.ofCode_isSome (c : Nat) : (CheckMode.ofCode c).isSome = true ↔ c ≤ 4 := by
  unfold CheckMode.ofCode; split <;> simp_all; omega

theorem CheckMode.code_of_ofCode {c : Nat} {m : CheckMode} (h : CheckMode.ofCode c = some m) :
    m.code = c := by
  unfold CheckMode.ofCode at h
  split at h <;> cases h <;> rfl

theorem Material.ofCode_isSome (c : Nat) : (Material.ofCode c).isSome = true ↔ c ≤ 3 := by
  unfold Material.ofCode; split <;> simp_all; omega

theorem Material.code_of_ofCode {c : Nat} {m : Material} (h : Material.ofCode c = some m) :
    m.code = c := by
  unfold Material.ofCode at h
  split at h <;> cases h <;> rfl

theorem Rights.ofCode_isSome (c : Nat) : (Rights.ofCode c).isSome = true ↔ c ≤ 7 := by
  unfold Rights.ofCode; split <;> simp <;> omega

/-- CREDIT is bit 0, TAKE bit 1 and REFILL bit 2 (R182). -/
theorem Rights.ofCode_bits {c : Nat} {r : Rights} (h : Rights.ofCode c = some r) :
    r = ⟨c.testBit 0, c.testBit 1, c.testBit 2⟩ := by
  unfold Rights.ofCode at h
  split at h
  · cases h
    simp [Nat.testBit_eq_decide_div_mod_eq, Bool.beq_eq_decide_eq]
  · cases h

theorem ItemKind.ofCode_container {c : Nat} (h : ItemKind.ofCode c = some .container) : c = 0 := by
  unfold ItemKind.ofCode at h
  split at h <;> trivial

theorem ItemKind.ofCode_crate {c : Nat} (h : ItemKind.ofCode c = some .crate) : c = 1 := by
  unfold ItemKind.ofCode at h
  split at h <;> trivial

/-- The fields of the kind pass their checks (R1, R4). -/
theorem entryBody_isSome (r : RawEntry) : (entryBody r).isSome = true ↔
    (r.kind = 0 ∧ r.material ≤ 3 ∧ (1 ≤ r.nominalMass ∧ r.nominalMass ≤ 2000) ∧
      r.massTolerance ≤ 255 ∧ r.residue ≤ 255 ∧ 1 ≤ r.volume ∧ r.volume ≤ 3000) ∨
    (r.kind = 1 ∧ (1 ≤ r.slots ∧ r.slots ≤ 30) ∧ r.bottleNumber ≤ 999999999999) := by
  unfold entryBody
  split
  · next hk =>
    have : r.kind ≠ 0 := fun h => by rw [h] at hk; cases hk
    have : r.kind ≠ 1 := fun h => by rw [h] at hk; cases hk
    simp [*]
  · next hk =>
    rw [← Material.ofCode_isSome, ItemKind.ofCode_container hk]
    split
    · next hm => simp [hm]
    · next hm => rw [hm]; split <;> simp <;> omega
  · next hk =>
    rw [ItemKind.ofCode_crate hk]
    split <;> simp [Config.maxArticle] at * <;> omega

/-- A body holds the raw fields of its kind (R1). -/
def EntryBody.HoldsFields (r : RawEntry) : EntryBody → Prop
  | .container m mass tolerance residue volume => r.kind = 0 ∧ m.code = r.material ∧
    mass = r.nominalMass ∧ tolerance = r.massTolerance ∧ residue = r.residue ∧ volume = r.volume
  | .crate slots bottle => r.kind = 1 ∧ slots = r.slots ∧ bottle = r.bottleNumber

/-- Where the fields of the kind pass, they are the fields of the body. -/
theorem entryBody_fields {r : RawEntry} {b : EntryBody} (h : entryBody r = some b) :
    b.HoldsFields r := by
  unfold entryBody at h
  split at h
  · cases h
  · next hk =>
    split at h
    · cases h
    · next hm =>
      split at h
      · cases h
        exact ⟨ItemKind.ofCode_container hk, Material.code_of_ofCode hm, rfl, rfl, rfl, rfl⟩
      · cases h
  · next hk =>
    split at h
    · cases h
      exact ⟨ItemKind.ofCode_crate hk, rfl, rfl⟩
    · cases h

/-- The ranges of the fields that every entry has (R1). -/
def CommonFieldsOk (r : RawEntry) : Prop :=
  r.number ≤ 999999999999 ∧ (1 ≤ r.scheme ∧ r.scheme ≤ 255) ∧ (1 ≤ r.producer ∧ r.producer ≤ 4095) ∧
  (40 ≤ r.nominalHeight ∧ r.nominalHeight ≤ 450) ∧ r.heightTolerance ≤ 31

theorem checkEntry_isSome (r : RawEntry) : (checkEntry r).isSome = true ↔
    (Span.ofCode r.span).isSome = true ∧ (CheckMode.ofCode r.check).isSome = true ∧
    (Rights.ofCode r.own).isSome = true ∧ (Rights.ofCode r.partner).isSome = true ∧
    (Rights.ofCode r.foreign).isSome = true ∧ (entryBody r).isSome = true ∧
    r.depositClass < 16 ∧ CommonFieldsOk r := by
  unfold checkEntry
  split
  · next hspan hcheck hown hpartner hforeign hbody =>
    simp only [hspan, hcheck, hown, hpartner, hforeign, hbody, CommonFieldsOk]
    split
    · split <;> simp_all
    · simp_all
  · next hno =>
    simp only [Option.isSome_none, Bool.false_eq_true, false_iff, Option.isSome_iff_exists]
    rintro ⟨⟨_, hspan⟩, ⟨_, hcheck⟩, ⟨_, hown⟩, ⟨_, hpartner⟩, ⟨_, hforeign⟩, ⟨_, hbody⟩, -⟩
    exact hno _ _ _ _ _ _ hspan hcheck hown hpartner hforeign hbody

/-- What an entry that passes the checks is (R1, R2, R4). -/
theorem checkEntry_fields {r : RawEntry} {e : Entry} (h : checkEntry r = some e) :
    CommonFieldsOk r ∧ Span.ofCode r.span = some e.span ∧ CheckMode.ofCode r.check = some e.check ∧
    Rights.ofCode r.own = some e.own ∧ Rights.ofCode r.partner = some e.partner ∧
    Rights.ofCode r.foreign = some e.foreign ∧ entryBody r = some e.body ∧
    e.number = normalise r.number e.span ∧ e.depositClass.val = r.depositClass ∧
    e.scheme = r.scheme ∧ e.producer = r.producer ∧ e.nominalHeight = r.nominalHeight ∧
    e.heightTolerance = r.heightTolerance := by
  unfold checkEntry at h
  split at h
  · next hspan hcheck hown hpartner hforeign hbody =>
    split at h
    · split at h
      · next hrange =>
        obtain ⟨hn, hs1, hs2, hp1, hp2, hh1, hh2, ht⟩ := hrange
        cases h
        exact ⟨⟨hn, ⟨hs1, hs2⟩, ⟨hp1, hp2⟩, ⟨hh1, hh2⟩, ht⟩, hspan, hcheck, hown, hpartner, hforeign,
          hbody, rfl, rfl, rfl, rfl, rfl, rfl⟩
      · cases h
    · cases h
  · cases h

theorem checkEntry_number {r : RawEntry} {e : Entry} (h : checkEntry r = some e) :
    e.number = normalise r.number e.span := by
  obtain ⟨-, -, -, -, -, -, -, hnumber, -⟩ := checkEntry_fields h
  exact hnumber

/-- An entry that passes the checks is within the ranges of R1, its number normalised. -/
theorem checkEntry_ok {r : RawEntry} {e : Entry} (h : checkEntry r = some e) : e.Ok := by
  obtain ⟨⟨hn, hs, hp, hh, ht⟩, -, -, -, -, -, hbody, hnumber, -, hscheme, hproducer, hheight,
    htolerance⟩ := checkEntry_fields h
  have hsome := (entryBody_isSome r).mp (by rw [hbody]; rfl)
  unfold Entry.Ok
  rw [hnumber, hscheme, hproducer, hheight, htolerance]
  refine ⟨(normalise_le _ _).trans hn, normalise_idem _ _, hs, hp, hh, ht, ?_⟩
  cases hb : e.body with
  | container m mass tolerance residue volume =>
    obtain ⟨hk, -, rfl, rfl, rfl, rfl⟩ := entryBody_fields (hbody.trans (congrArg some hb))
    rcases hsome with ⟨-, -, hbodyOk⟩ | ⟨hk', -⟩
    · exact hbodyOk
    · omega
  | crate slots bottle =>
    obtain ⟨hk, rfl, rfl⟩ := entryBody_fields (hbody.trans (congrArg some hb))
    rcases hsome with ⟨hk', -⟩ | ⟨-, hbodyOk⟩
    · omega
    · exact hbodyOk

/-- The checks fail exactly where a field is out of its range (R1, R4). -/
theorem checkEntry_eq_none_iff (r : RawEntry) : checkEntry r = none ↔
    999999999999 < r.number ∨ 2 < r.span ∨ 1 < r.kind ∨ 15 < r.depositClass ∨ r.scheme = 0 ∨
    255 < r.scheme ∨ r.producer = 0 ∨ 4095 < r.producer ∨ 7 < r.own ∨ 7 < r.partner ∨
    7 < r.foreign ∨ 4 < r.check ∨ r.nominalHeight < 40 ∨ 450 < r.nominalHeight ∨
    31 < r.heightTolerance ∨
    (r.kind = 0 ∧ (3 < r.material ∨ r.nominalMass = 0 ∨ 2000 < r.nominalMass ∨
      255 < r.massTolerance ∨ 255 < r.residue ∨ r.volume = 0 ∨ 3000 < r.volume)) ∨
    (r.kind = 1 ∧ (r.slots = 0 ∨ 30 < r.slots ∨ 999999999999 < r.bottleNumber)) := by
  rw [← Option.not_isSome_iff_eq_none, checkEntry_isSome, Span.ofCode_isSome,
    CheckMode.ofCode_isSome, Rights.ofCode_isSome, Rights.ofCode_isSome, Rights.ofCode_isSome,
    entryBody_isSome, CommonFieldsOk]
  omega

end Sys2Proof.Machine
end

section
/-! PROOFS. The laws right after reset, and the laws of the tables, the counters, the entries and the
sessions, which every step keeps. -/

namespace Sys2Proof.Machine

-- One theorem after another: many that wait for the kernel at once take threads and memory.
set_option Elab.async false

/-! ## After a hardware reset -/

/-- The values right after a hardware reset that the laws of the books speak of. -/
theorem reset_articlesOk : ArticlesOk State.reset := ⟨rfl, Nat.zero_le _⟩

theorem reset_countersOk : CountersOk State.reset := by
  refine ⟨fun r => ?_, Totals.zero_ok, fun i => ?_⟩
  · simpa [State.reset] using Row.zero_ok
  · simp [State.reset]

theorem reset_parametersOk : ParametersOk State.reset := by
  unfold ParametersOk; decide

theorem reset_holds_nothing (e : Entry) : ¬State.reset.Holds e := by
  simp [State.Holds, State.reset]

theorem reset_sessionsOk : SessionsOk State.reset := by simp [SessionsOk, State.reset]

theorem reset_stationsOk : StationsOk State.reset := by
  intro st
  simp [State.reset, Station.reset, Station.Ok, StationState.attached]

theorem reset_referralsOk : ReferralsOk State.reset := by
  simp [ReferralsOk, State.reset, State.waitingItems]

theorem reset_linkedOk : LinkedOk State.reset := by
  refine ⟨?_, ?_, ?_⟩
  · simp [HeldOk, State.reset, State.waitingItems]
  · simp [SessionStatesOk, State.reset]
  · simp [VoucherQueueOk, State.reset, Transfer.session?]

theorem reset_lanesOk : LanesOk State.reset := by
  intro i
  simp [State.reset, laneOk, Lane.reset, Pipeline.reset, Pipeline.orders, Pipeline.isEmpty]

theorem reset_binsOk : BinsOk State.reset := by
  intro i
  simp [State.reset, binOk, Lane.reset]

theorem reset_handles : State.reset.handles = [] := by
  simp [State.handles, State.reset, Pipeline.reset, Pipeline.orders]

/-- Settles O3. -/
theorem resetKeepsEveryLaw : Obligations.ResetKeepsEveryLaw := by
  unfold Obligations.ResetKeepsEveryLaw
  have hstrokes : StrokesOk State.reset := Nat.zero_le _
  have hports : PortsOk State.reset := ⟨Nat.zero_le _, Nat.zero_le _⟩
  have hqueues : QueuesOk State.reset := fun i => by simp [State.reset, Pipeline.reset]
  have hentries : EntriesOk State.reset :=
    (EntriesOk_iff _).mpr fun e he => absurd he (reset_holds_nothing e)
  have hhandles : HandlesOk State.reset := by simp [HandlesOk, reset_handles]
  exact ⟨reset_articlesOk, hstrokes, hports, hqueues, reset_countersOk, reset_parametersOk,
    reset_stationsOk, reset_sessionsOk, reset_referralsOk, reset_linkedOk, .inl rfl, reset_lanesOk,
    reset_binsOk, hentries, hhandles⟩

/-- Settles O4: every block holds one record over and over, so one value of each says all. -/
theorem resetLeavesHardwareValues : Obligations.ResetLeavesHardwareValues := by
  unfold Obligations.ResetLeavesHardwareValues
  simp [State.reset, Lane.reset, Pipeline.reset, Pipeline.orders, Station.reset, Port.reset, Port.all,
    Parameters.reset, Row.isClear, laneNo]

/-! ## The writes of the tables keep the laws -/

theorem TableChange.articlesOk {c : Instr} {s u : State} (h : TableChange c s u) (hs : ArticlesOk s) :
    ArticlesOk u := by
  cases h with
  | released => exact reset_articlesOk
  | loaded tag r e s => exact State.loadEntry_articlesOk e hs
  | answered tag n r e s => exact State.loadEntry_articlesOk e hs
  | removed tag n span k sp s =>
    exact ⟨removeEntry_wf k sp hs.1, (List.length_filter_le _ _).trans hs.2⟩
  | emptied => exact ⟨rfl, Nat.zero_le _⟩
  | keyLoaded | keyCleared | valued | parameter | stroke => exact hs

theorem TableChange.countersOk {c : Instr} {s u : State} (h : TableChange c s u) (hs : CountersOk s) :
    CountersOk u := by
  cases h with
  | released => exact reset_countersOk
  | loaded tag r e s => rcases State.loadEntry_cases e s with h | h <;> rw [h] <;> exact hs
  | answered tag n r e s => rcases State.loadEntry_cases e s with h | h <;> rw [h] <;> exact hs
  | removed | emptied | keyLoaded | keyCleared | valued | parameter | stroke => exact hs

theorem TableChange.parametersOk {c : Instr} {s u : State} (h : TableChange c s u)
    (hs : ParametersOk s) : ParametersOk u := by
  cases h with
  | released => exact reset_parametersOk
  | loaded tag r e s => rcases State.loadEntry_cases e s with h | h <;> rw [h] <;> exact hs
  | answered tag n r e s => rcases State.loadEntry_cases e s with h | h <;> rw [h] <;> exact hs
  | parameter tag n v p s h => exact h hs
  | stroke tag k v p s h => exact h hs
  | removed | emptied | keyLoaded | keyCleared | valued => exact hs

/-- The only entry that storing an entry adds is that entry. -/
theorem State.loadEntry_holds {e x : Entry} {s : State} (h : (s.loadEntry e).2.Holds x) :
    x = e ∨ s.Holds x := by
  rcases State.loadEntry_cases e s with hl | hl <;> rw [hl] at h
  · exact .inr h
  · rcases h with h | h
    · exact (mem_storeEntry h).imp id .inl
    · exact .inr (.inr h)

theorem TableChange.entriesOk {c : Instr} {s u : State} (h : TableChange c s u) (hs : EntriesOk s) :
    EntriesOk u := by
  rw [EntriesOk_iff] at hs ⊢
  intro x hx
  cases h with
  | released => exact absurd hx (reset_holds_nothing x)
  | loaded tag r e s he =>
    rcases State.loadEntry_holds hx with rfl | hx
    · exact checkEntry_ok he
    · exact hs x hx
  | answered tag n r e s he =>
    rcases State.loadEntry_holds hx with rfl | hx
    · exact checkEntry_ok he
    · exact hs x hx
  | removed => exact hs x (hx.imp List.mem_of_mem_filter id)
  | emptied => exact hs x (hx.imp (fun h => nomatch h) id)
  | keyLoaded | keyCleared | valued | parameter | stroke => exact hs x hx

theorem TableChange.sessionsOk {c : Instr} {s u : State} (h : TableChange c s u) (hs : SessionsOk s) :
    SessionsOk u := by
  cases h with
  | released => exact reset_sessionsOk
  | loaded tag r e s => rcases State.loadEntry_cases e s with h | h <;> rw [h] <;> exact hs
  | answered tag n r e s => rcases State.loadEntry_cases e s with h | h <;> rw [h] <;> exact hs
  | removed | emptied | keyLoaded | keyCleared | valued | parameter | stroke => exact hs

/-- SET CLASS VALUE has no class 0 (R20, R21). -/
theorem TableChange.classZero {c : Instr} {s u : State} (h : TableChange c s u)
    (hs : s.classValues[0] = 0) : u.classValues[0] = 0 := by
  cases h with
  | released => rfl
  | loaded tag r e s => rcases State.loadEntry_cases e s with h | h <;> rw [h] <;> exact hs
  | answered tag n r e s => rcases State.loadEntry_cases e s with h | h <;> rw [h] <;> exact hs
  | valued tag c v hc s =>
    have hne : c ≠ 0 := by omega
    simpa [Vector.getElem_set, hne] using hs
  | removed | emptied | keyLoaded | keyCleared | parameter | stroke => exact hs

/-- A law of the books that the elementary changes and the writes of the tables keep is kept by every
step. -/
theorem step_keeps_books {P : State → Prop} (hevolve : ∀ s t, Evolves s t → P s → P t)
    (hwrite : ∀ c s u, TableChange c s u → P s → P u) {s t : State} (hs : P s)
    (hstep : step s = .next t) : P t := by
  obtain ⟨c, v, hv, hbooks⟩ := step_books hstep
  have hPv : P v := hevolve s v (.elsewhere hv) hs
  rcases hbooks with h | ⟨u, hu, h⟩
  · exact hevolve v t h hPv
  · exact hevolve u t h (hwrite c v u hu hPv)

/-- Settles O54: the laws of the table and the parameters hold where the tables are the same, and the
writes keep them. -/
theorem stepKeepsTableCountersAndParameters : Obligations.StepKeepsTableCountersAndParameters := by
  unfold Obligations.StepKeepsTableCountersAndParameters
  refine ⟨fun s t harticles hcounters hparams hstep => ⟨?_, ?_, ?_⟩, fun s t hs hstep => ?_⟩
  · refine step_keeps_books (fun s t h hs => ?_) (fun _ _ _ h => h.articlesOk) harticles hstep
    unfold ArticlesOk
    rwa [h.sameTables.articles]
  · exact step_keeps_books (fun _ _ h => h.countersOk) (fun _ _ _ h => h.countersOk) hcounters hstep
  · refine step_keeps_books (fun s t h hs => ?_) (fun _ _ _ h => h.parametersOk) hparams hstep
    unfold ParametersOk
    rwa [h.sameTables.params]
  · exact step_keeps_books (fun _ _ h => h.entriesOk) (fun _ _ _ h => h.entriesOk) hs hstep

/-- Settles O57. -/
theorem stepKeepsTheSessions : Obligations.StepKeepsTheSessions := by
  unfold Obligations.StepKeepsTheSessions
  intro s t hsessions hzero hstep
  refine ⟨step_keeps_books (fun _ _ h => h.sessionsOk) (fun _ _ _ h => h.sessionsOk) hsessions hstep,
    ?_⟩
  exact step_keeps_books (P := fun s => s.classValues[0] = 0)
    (fun s t h hs => by rwa [h.sameTables.classValues]) (fun _ _ _ h => h.classZero) hzero hstep

/-! ## Which commands write which table -/

theorem TableChange.articles {c : Instr} {s u : State} (h : TableChange c s u)
    (hc : c ≠ .resetRelease ∧ (∀ tag r, c ≠ .loadArticle tag r) ∧
      (∀ tag n sp, c ≠ .removeArticle tag n sp) ∧ (∀ tag, c ≠ .clearTable tag) ∧
      (∀ tag n r, c ≠ .referralAnswerEntry tag n r)) : u.articles = s.articles := by
  obtain ⟨hrelease, hload, hremove, hclear, hanswer⟩ := hc
  cases h with
  | released => exact absurd rfl hrelease
  | loaded tag r => exact absurd rfl (hload tag r)
  | answered tag n r => exact absurd rfl (hanswer tag n r)
  | removed tag n span => exact absurd rfl (hremove tag n span)
  | emptied tag => exact absurd rfl (hclear tag)
  | keyLoaded | keyCleared | valued | parameter | stroke => rfl

theorem TableChange.keys {c : Instr} {s u : State} (h : TableChange c s u)
    (hc : c ≠ .resetRelease ∧ (∀ tag a b d, c ≠ .loadKey tag a b d) ∧
      (∀ tag a, c ≠ .clearKey tag a)) : u.keys = s.keys := by
  obtain ⟨hrelease, hload, hclear⟩ := hc
  cases h with
  | released => exact absurd rfl hrelease
  | loaded tag r e s => rcases State.loadEntry_cases e s with h | h <;> rw [h]
  | answered tag n r e s => rcases State.loadEntry_cases e s with h | h <;> rw [h]
  | keyLoaded tag a b d => exact absurd rfl (hload tag a b d)
  | keyCleared tag a => exact absurd rfl (hclear tag a)
  | removed | emptied | valued | parameter | stroke => rfl

theorem TableChange.classValues {c : Instr} {s u : State} (h : TableChange c s u)
    (hc : c ≠ .resetRelease ∧ (∀ tag a v, c ≠ .setClassValue tag a v)) :
    u.classValues = s.classValues := by
  obtain ⟨hrelease, hset⟩ := hc
  cases h with
  | released => exact absurd rfl hrelease
  | loaded tag r e s => rcases State.loadEntry_cases e s with h | h <;> rw [h]
  | answered tag n r e s => rcases State.loadEntry_cases e s with h | h <;> rw [h]
  | valued tag c v => exact absurd rfl (hset tag c v)
  | removed | emptied | keyLoaded | keyCleared | parameter | stroke => rfl

theorem TableChange.params {c : Instr} {s u : State} (h : TableChange c s u)
    (hc : c ≠ .resetRelease ∧ (∀ tag a v, c ≠ .setParameter tag a v) ∧
      (∀ tag a v, c ≠ .setParameterStroke tag a v)) : u.params = s.params := by
  obtain ⟨hrelease, hset, hstroke⟩ := hc
  cases h with
  | released => exact absurd rfl hrelease
  | loaded tag r e s => rcases State.loadEntry_cases e s with h | h <;> rw [h]
  | answered tag n r e s => rcases State.loadEntry_cases e s with h | h <;> rw [h]
  | parameter tag n v => exact absurd rfl (hset tag n v)
  | stroke tag k v => exact absurd rfl (hstroke tag k v)
  | removed | emptied | keyLoaded | keyCleared | valued => rfl

/-- Settles O18: what evolves the books leaves the tables, and each write names its commands. -/
theorem tablesChangeOnlyByTheirCommands : Obligations.TablesChangeOnlyByTheirCommands := by
  unfold Obligations.TablesChangeOnlyByTheirCommands
  intro c s
  obtain ⟨t, hexec, hbooks⟩ := exec_takesBooks s c
  refine ⟨t, hexec, ?_⟩
  rcases hbooks with h | ⟨u, hu, h⟩
  · exact ⟨fun _ => h.sameTables.articles, fun _ => h.sameTables.keys,
      fun _ => h.sameTables.classValues, fun _ => h.sameTables.params⟩
  · exact ⟨fun hc => h.sameTables.articles.trans (hu.articles hc),
      fun hc => h.sameTables.keys.trans (hu.keys hc),
      fun hc => h.sameTables.classValues.trans (hu.classValues hc),
      fun hc => h.sameTables.params.trans (hu.params hc)⟩

end Sys2Proof.Machine
end

section
/-! PROOFS. The commands of the Article Table, the Scheme Key List and the Deposit Class Table. -/

namespace Sys2Proof.Machine

-- One theorem after another: many that wait for the kernel at once take threads and memory.
set_option Elab.async false

/-- An event that is taken while RESET is released leads to its effect, and sends what its effect
sends. -/
theorem live_sends {f : State → State} {s u : State} {fs bs : List Frame}
    (hr : s.resetAsserted = false) (h : Sends fs bs u (f s)) :
    ∃ t, live f s = .next t ∧ Sends fs bs u t := ⟨f s, live_released hr, h⟩

/-- A command whose effect is a REPLY on a state. -/
theorem live_replies {f : State → State} {s u : State} {tag : Byte} {code : Nat} {r : ReplyCode}
    {results : List Byte} (hr : s.resetAsserted = false) (h : f s = u.reply tag code r results) :
    ∃ t, live f s = .next t ∧ Sends (replyFrames tag code r results) [] u t :=
  live_sends hr (h ▸ State.reply_sends tag code r results u)

/-- A command whose effect is a refusal. -/
theorem live_refuses {f : State → State} {s : State} {tag : Byte} {code : Nat} {r : ReplyCode}
    (hr : s.resetAsserted = false) (h : f s = s.refuse tag code r) :
    ∃ t, live f s = .next t ∧ Sends (replyFrames tag code r []) [] s t := live_replies hr h

/-! ## LOAD ARTICLE and REMOVE ARTICLE -/

/-- An entry that is stored, with the indication `n`, and the table that then stands. -/
theorem execLoadArticle_stores {tag : Byte} {r : RawEntry} {e : Entry} {s : State} {n count : Nat}
    {result : StoreResult} (hr : s.resetAsserted = false) (hcheck : checkEntry r = some e)
    (hload : s.loadEntry e = (result, { s with articles := storeEntry e s.articles }))
    (hn : result = .new ∧ n = 0 ∨ result = .replaced ∧ n = 1)
    (hcount : (storeEntry e s.articles).length = count) :
    ∃ t arts, execLoadArticle tag r s = .next t ∧
      Sends (replyFrames tag 1 .ok (be 1 n ++ be 2 count)) [] { s with articles := arts } t ∧
      arts.length = count ∧ ∀ k sp, findEntry arts k sp =
        if keyCode k sp = e.key then some e else findEntry s.articles k sp := by
  have heffect : ∃ t, execLoadArticle tag r s = .next t ∧
      Sends (replyFrames tag 1 .ok (be 1 n ++ be 2 count)) []
        { s with articles := storeEntry e s.articles } t := by
    refine live_replies hr ?_
    subst hcount
    rcases hn with ⟨rfl, rfl⟩ | ⟨rfl, rfl⟩ <;> simp only [hcheck, hload, countField]
  obtain ⟨t, hexec, hsends⟩ := heffect
  exact ⟨t, storeEntry e s.articles, hexec, hsends, hcount, findEntry_storeEntry e s.articles⟩

/-- Settles O11. -/
theorem loadArticleStoresOneEntry : Obligations.LoadArticleStoresOneEntry := by
  unfold Obligations.LoadArticleStoresOneEntry
  simp only [exec]
  refine ⟨fun r => ⟨checkEntry_eq_none_iff r, fun e he => ?_⟩, fun tag r s hr hs => ⟨?_, ?_⟩⟩
  · obtain ⟨-, hspan, hcheck, hown, hpartner, hforeign, hbody, hnumber, hclass, hscheme, hproducer,
      hheight, htolerance⟩ := checkEntry_fields he
    refine ⟨checkEntry_ok he, hnumber, Span.code_of_ofCode hspan, hclass, hscheme, hproducer,
      Rights.ofCode_bits hown, Rights.ofCode_bits hpartner, Rights.ofCode_bits hforeign,
      CheckMode.code_of_ofCode hcheck, hheight, htolerance, ?_⟩
    have hfields := entryBody_fields hbody
    cases hb : e.body <;> exact hb ▸ hfields
  · intro hnone
    refine live_replies hr ?_
    simp only [hnone, countField]
  · intro e he
    refine ⟨checkEntry_number he, fun hsome => ?_, fun hnone hroom => ?_,
      fun hnone hfull => ?_⟩
    · exact execLoadArticle_stores hr he (State.loadEntry_replaced hsome) (.inr ⟨rfl, rfl⟩)
        (storeEntry_length_replaced hs.1 hsome)
    · exact execLoadArticle_stores hr he (State.loadEntry_new hnone hroom) (.inl ⟨rfl, rfl⟩)
        (storeEntry_length_new hnone)
    · have hload := State.loadEntry_full hnone (by rw [hfull]; exact Nat.lt_irrefl _)
      refine live_replies hr ?_
      simp only [he, hload, countField, hfull]

/-- Settles O12. -/
theorem removeArticleTouchesOneKey : Obligations.RemoveArticleTouchesOneKey := by
  unfold Obligations.RemoveArticleTouchesOneKey
  simp only [exec]
  intro tag number span s hr hs
  refine ⟨fun hbad => ?_, fun sp hsp hnumber => ⟨fun hnone => ?_, fun hsome => ?_⟩⟩
  · refine live_replies hr ?_
    cases hspan : Span.ofCode span with
    | none => rfl
    | some sp =>
      have hnumber : ¬number ≤ Config.maxArticle :=
        Nat.not_le.mpr (hbad.resolve_left (by simp [hspan]))
      simp only [if_neg hnumber, countField]
  · refine live_replies hr ?_
    simp only [hsp, if_pos hnumber, hnone, countField]
  · have hlength := removeEntry_length hs.1 hsome
    obtain ⟨x, hx⟩ := Option.isSome_iff_exists.mp hsome
    have heffect : ∃ t, execRemoveArticle tag number span s = .next t ∧
        Sends (replyFrames tag 2 .ok (be 2 (s.articles.length - 1))) []
          { s with articles := removeEntry (normalise number sp) sp s.articles } t := by
      refine live_replies hr ?_
      simp only [hsp, if_pos hnumber, hx, countField, hlength]
    obtain ⟨t, hexec, hsends⟩ := heffect
    exact ⟨t, _, hexec, hsends, hlength, findEntry_removeEntry s.articles _ sp⟩

/-- Settles O13. -/
theorem clearTableWaitsForReferrals : Obligations.ClearTableWaitsForReferrals := by
  unfold Obligations.ClearTableWaitsForReferrals
  simp only [exec]
  intro tag s hr
  refine ⟨fun hnone => ?_, fun hsome => ?_⟩
  · refine live_replies hr ?_
    simp only [List.isEmpty_iff, if_pos hnone, countField, List.length_nil]
  · refine live_replies hr ?_
    simp only [List.isEmpty_iff, if_neg hsome, countField]

/-! ## READ ARTICLE -/

/-- The EXACT entry comes before the TENS entry, and that before the HUNDREDS entry (R9). -/
theorem lookup_eq_some_iff (t : List Entry) (n : Nat) (e : Entry) : lookup t n = some e ↔
    findEntry t n .exact = some e ∨ findEntry t n .exact = none ∧
      (findEntry t (normalise n .tens) .tens = some e ∨
        findEntry t (normalise n .tens) .tens = none ∧
          findEntry t (normalise n .hundreds) .hundreds = some e) := by
  simp only [lookup, Option.or_eq_some_iff]

theorem lookup_eq_none_iff (t : List Entry) (n : Nat) : lookup t n = none ↔
    findEntry t n .exact = none ∧ findEntry t (normalise n .tens) .tens = none ∧
      findEntry t (normalise n .hundreds) .hundreds = none := by
  simp only [lookup, Option.or_eq_none_iff]

/-- Settles O14. -/
theorem readArticleAnswersTheEntry : Obligations.ReadArticleAnswersTheEntry := by
  unfold Obligations.ReadArticleAnswersTheEntry
  simp only [exec]
  refine ⟨fun tag number span sp e s hr hsp hnumber he => ?_,
    fun tag number span sp s hr hsp hnumber hnone => ?_, fun tag number e s hr hnumber he => ?_,
    fun tag number s hr hnumber hexact htens hhundreds => ?_⟩
  · refine live_replies hr ?_
    simp only [hsp, if_pos hnumber, he, State.answerEntry]
  · refine live_refuses hr ?_
    simp only [hsp, if_pos hnumber, hnone, State.answerEntry]
  · have hlookup := (lookup_eq_some_iff _ _ _).mpr he
    refine live_replies hr ?_
    simp only [if_pos hnumber, hlookup, State.answerEntry]
  · have hlookup := (lookup_eq_none_iff _ _).mpr ⟨hexact, htens, hhundreds⟩
    refine live_refuses hr ?_
    simp only [if_pos hnumber, hlookup, State.answerEntry]

/-! ## Keys and class values -/

/-- Settles O15: the range checks come first, then the test of the slot's scheme row. -/
theorem keysChangeOnlyOverAClearRow : Obligations.KeysChangeOnlyOverAClearRow := by
  unfold Obligations.KeysChangeOnlyOverAClearRow
  simp only [exec]
  refine ⟨fun tag i scheme producer s hr hlow hhigh hproducer => ⟨fun hclear => ?_, fun hclear => ?_⟩,
    fun tag slot scheme producer s hr hbad => live_refuses hr ?_,
    fun tag i s hr => ⟨fun hclear => ?_, fun hclear => ?_⟩⟩
  · refine live_replies hr ?_
    simp only [slotIx_succ, slotRow, hclear, hlow, hhigh, hproducer, and_self, if_true]
  · refine live_refuses hr ?_
    simp only [slotIx_succ, slotRow, hclear, hlow, hhigh, hproducer, and_self, if_true,
      Bool.false_eq_true, if_false]
  · split
    · rfl
    · next i hi =>
      have hslot : 1 ≤ slot ∧ slot ≤ 4 := by
        by_contra hout
        rw [slotIx_none (by omega)] at hi
        cases hi
      rw [if_neg (by omega)]
  · refine live_replies hr ?_
    simp only [slotIx_succ, slotRow, hclear, if_true]
  · refine live_refuses hr ?_
    simp only [slotIx_succ, slotRow, hclear, Bool.false_eq_true, if_false]

/-- The four slots, lowest number first. -/
theorem keys_toList (keys : Vector (Option SchemeKey) 4) :
    keys.toList = [keys[0], keys[1], keys[2], keys[3]] :=
  List.ext_getElem (by simp) fun i hi _ => by
    have : i < 4 := by simpa using hi
    interval_cases i <;> simp

/-- Settles O16. -/
theorem readKeysAnswersTheSlots : Obligations.ReadKeysAnswersTheSlots := by
  unfold Obligations.ReadKeysAnswersTheSlots
  simp only [exec]
  intro tag s hr
  refine live_replies hr ?_
  simp only [keys_toList, List.flatMap_cons, List.flatMap_nil, List.append_nil, List.append_assoc,
    markByte, keysEnabled, Bool.cond_eq_ite]

/-- Settles O17. -/
theorem classValuesAreSetAndRead : Obligations.ClassValuesAreSetAndRead := by
  unfold Obligations.ClassValuesAreSetAndRead
  simp only [exec]
  refine ⟨fun tag c v s hr hc hv => ?_, fun tag c v s hr hbad => live_refuses hr ?_,
    fun tag s hr => live_replies hr rfl⟩
  · have hrange : 1 ≤ c.val ∧ c.val < 16 := ⟨Nat.pos_of_ne_zero fun h => hc (Fin.ext h), c.isLt⟩
    refine live_replies hr ?_
    simp only [dif_pos hrange, if_pos hv]
  · split
    · rw [if_neg (by omega)]
    · rfl

end Sys2Proof.Machine
end

section
/-! PROOFS. Management commands that are refused: the REPLY is all that happens (R174). -/

namespace Sys2Proof.Machine

-- One theorem after another: many that wait for the kernel at once take threads and memory.
set_option Elab.async false

/-- A command is refused: its REPLY, without results, is all that happens. -/
def Refused (s : State) (tag : Byte) (code : Nat) (r : ReplyCode)
    (o : Host.Outcome State Fault Refusal) : Prop :=
  ∃ t, o = .next t ∧ Sends (replyFrames tag code r []) [] s t

theorem live_refused {f : State → State} {s : State} {tag : Byte} {code : Nat} {r : ReplyCode}
    (hr : s.resetAsserted = false) (h : f s = s.refuse tag code r) :
    Refused s tag code r (live f s) := live_refuses hr h

section
variable {s : State} {tag : Byte}

/-! ## Article Table and keys -/

theorem execReadArticleKey_badValue {n sp : Nat} (hr : s.resetAsserted = false)
    (h : Span.ofCode sp = none ∨ 999999999999 < n) :
    Refused s tag 3 .badValue (execReadArticleKey tag n sp s) := by
  refine live_refused hr ?_
  split
  · rfl
  · next hsp => rw [if_neg (Nat.not_le.mpr (h.resolve_left (by simp [hsp])))]

theorem execReadArticleLookup_badValue {n : Nat} (hr : s.resetAsserted = false)
    (h : 999999999999 < n) : Refused s tag 3 .badValue (execReadArticleLookup tag n s) :=
  live_refused hr (if_neg (Nat.not_le.mpr h))

theorem execClearKey_badValue {slot : Nat} (hr : s.resetAsserted = false)
    (h : slot = 0 ∨ 4 < slot) : Refused s tag 6 .badValue (execClearKey tag slot s) :=
  live_refused hr (by simp only [slotIx_none h])

/-! ## REFERRAL ANSWER -/

theorem answerNumber_eq_false_iff (n : Nat) : answerNumber n = false ↔ n = 0 ∨ 255 < n := by
  simp only [answerNumber, Bool.and_eq_false_iff, decide_eq_false_iff_not]; omega

theorem execReferralAnswerEntry_badValue {n : Nat} {raw : RawEntry} (hr : s.resetAsserted = false)
    (h : n = 0 ∨ 255 < n ∨ checkEntry raw = none) :
    Refused s tag 10 .badValue (execReferralAnswerEntry tag n raw s) := by
  refine live_refused hr ?_
  split
  · next hn he =>
    rw [← or_assoc, ← answerNumber_eq_false_iff, hn, he] at h
    simp at h
  · rfl

theorem execReferralAnswerDecide_badValue {n v k rc : Nat} (hr : s.resetAsserted = false)
    (h : n = 0 ∨ 255 < n ∨ checkDecision v k rc = none) :
    Refused s tag 10 .badValue (execReferralAnswerDecide tag n v k rc s) := by
  refine live_refused hr ?_
  split
  · next hn hd =>
    rw [← or_assoc, ← answerNumber_eq_false_iff, hn, hd] at h
    simp at h
  · rfl

/-- A DECIDE answer whose route class disagrees with the kind of the snapshot (R54). -/
theorem execReferralAnswerDecide_disagrees {n v k rc : Nat} {d : Decided} {route : RouteClass}
    {f : Referral} {e : Entry} (hr : s.resetAsserted = false) (hlow : 1 ≤ n) (hhigh : n ≤ 255)
    (hd : checkDecision v k rc = some (.accept d route)) (hf : s.referral? n = some f)
    (hkind : f.kind = .decision e) (hroute : ¬(e.kind = .crate ↔ route = .crate)) :
    Refused s tag 10 .badValue (execReferralAnswerDecide tag n v k rc s) := by
  have hnumber : answerNumber n = true := by simp [answerNumber, hlow, hhigh]
  have hdisagrees : routeAgrees f.kind route = false := by
    rw [Bool.eq_false_iff]
    intro hagrees
    simp only [routeAgrees, hkind, beq_iff_eq] at hagrees
    exact hroute (by rw [← beq_iff_eq (a := e.kind), hagrees, beq_iff_eq])
  exact live_refused hr (by
    simp only [hnumber, hd, hf, hdisagrees, Bool.false_eq_true, if_false])

/-! ## Sessions and vouchers -/

theorem execReadSessionRecord_refused {n : Nat} {r : ReplyCode} (hr : s.resetAsserted = false)
    (h : n = 0 ∧ r = .badValue ∨ n ≠ 0 ∧ s.session? n = none ∧ r = .notFound) :
    Refused s tag 12 r (execReadSessionRecord tag n s) := by
  refine live_refused hr ?_
  rcases h with ⟨hn, rfl⟩ | ⟨hn, hnone, rfl⟩
  · rw [if_pos hn]
  · rw [if_neg hn]; simp only [hnone]

theorem execReadSessionLines_refused {n k : Nat} {r : ReplyCode} (hr : s.resetAsserted = false)
    (h : (n = 0 ∨ k = 0 ∨ 15 < k) ∧ r = .badValue ∨
      (n ≠ 0 ∧ 1 ≤ k ∧ k ≤ 15) ∧ s.session? n = none ∧ r = .notFound) :
    Refused s tag 12 r (execReadSessionLines tag n k s) := by
  refine live_refused hr ?_
  rcases h with ⟨hbad, rfl⟩ | ⟨hgood, hnone, rfl⟩
  · rw [if_pos hbad]
  · rw [if_neg (by omega)]; simp only [hnone]

/-- The tests of R88 that come before RESUME, RESTART and CANCEL. -/
theorem State.onStopped_refuses {n : Nat} {r : ReplyCode} (act : Phase → Nat → State → State)
    (h : n = 0 ∧ r = .badValue ∨
      n ≠ 0 ∧ (∀ ph k m g, s.transfer ≠ .stopped ph k m g) ∧ r = .badState ∨
      n ≠ 0 ∧ (∃ ph k m g, s.transfer = .stopped ph k m g ∧ m ≠ n) ∧ r = .notFound) :
    s.onStopped tag n act = s.refuse tag 14 r := by
  unfold State.onStopped
  rcases h with ⟨hn, rfl⟩ | ⟨hn, hrunning, rfl⟩ | ⟨hn, ⟨ph, k, m, g, hstopped, hm⟩, rfl⟩
  · rw [if_pos hn]
  · rw [if_neg hn]
    split
    · next hstopped => exact absurd hstopped (hrunning _ _ _ _)
    all_goals rfl
  · rw [if_neg hn]
    simp only [hstopped, if_neg hm]

theorem execVoucherControlAbort_refused {n : Nat} {r : ReplyCode} (hr : s.resetAsserted = false)
    (h : n = 0 ∧ r = .badValue ∨
      n ≠ 0 ∧ (∀ ph g e l, s.transfer ≠ .running ph n g e l) ∧ r = .notRunning) :
    Refused s tag 14 r (execVoucherControlAbort tag n s) := by
  refine live_refused hr ?_
  rcases h with ⟨hn, rfl⟩ | ⟨hn, hother, rfl⟩
  · rw [if_pos hn]
  · rw [if_neg hn]
    split
    · next m _ _ _ hrunning =>
      rw [if_neg fun hm : m = n => hother _ _ _ _ (hm ▸ hrunning)]
    all_goals rfl

/-! ## Lanes -/

theorem laneConfig_eq_none {k rc p f w : Nat} (h : LaneKind.ofCode k = none ∨
    RouteClass.ofCode rc = none ∨ p = 0 ∨ 20000 < p ∨ f = 0 ∨ 16 < f ∨ w < 50 ∨ 99 < w) :
    laneConfig k rc p f w = none := by
  unfold laneConfig
  split
  · next hk hrc => rw [if_neg (by simp only [hk, hrc] at h; simp at h; omega)]
  · rfl

theorem execSetLane_badValue {lane k rc p f w : Nat} (hr : s.resetAsserted = false)
    (h : lane = 0 ∨ 12 < lane ∨ LaneKind.ofCode k = none ∨ RouteClass.ofCode rc = none ∨ p = 0 ∨
      20000 < p ∨ f = 0 ∨ 16 < f ∨ w < 50 ∨ 99 < w) :
    Refused s tag 16 .badValue (execSetLane tag lane k rc p f w s) := by
  refine live_refused hr ?_
  rw [← or_assoc] at h
  split
  · next hi hconfig =>
    rcases h with h | h
    · rw [laneIx_none h] at hi; cases hi
    · rw [laneConfig_eq_none h] at hconfig; cases hconfig
  · rfl

theorem execLaneGoOpen_badState {i : Fin 12} (hr : s.resetAsserted = false)
    (h : (s.lanes[i]).state ≠ .closed ∧ (s.lanes[i]).state ≠ .draining ∨
      (s.lanes[i]).state = .closed ∧
        ((s.lanes[i]).capacity = 0 ∨ (s.lanes[i]).binPresent = false)) :
    Refused s tag 17 .badState (execLaneGoOpen tag (laneNo i) s) := by
  refine live_refused hr ?_
  simp only [laneIx_laneNo]
  split
  · next hclosed =>
    have hunfit := h.resolve_left fun hne => hne.1 hclosed
    rw [if_neg]
    rintro ⟨hcapacity, hbin⟩
    rcases hunfit.2 with hzero | hout
    · omega
    · rw [hbin] at hout; cases hout
  · next hdraining =>
    rcases h with ⟨-, hne⟩ | ⟨hclosed, -⟩
    · exact absurd hdraining hne
    · rw [hdraining] at hclosed; cases hclosed
  all_goals rfl

theorem execLaneGoDrain_badState {i : Fin 12} (hr : s.resetAsserted = false)
    (hopen : (s.lanes[i]).state ≠ .opened) (hrest : ∀ b, (s.lanes[i]).state ≠ .rest b) :
    Refused s tag 17 .badState (execLaneGoDrain tag (laneNo i) s) := by
  refine live_refused hr ?_
  simp only [laneIx_laneNo]
  split
  · next h => exact absurd h hopen
  · next h => exact absurd h (hrest _)
  all_goals rfl

theorem execLaneGoClearFault_badState {i : Fin 12} (hr : s.resetAsserted = false)
    (hfault : (s.lanes[i]).state ≠ .fault) :
    Refused s tag 17 .badState (execLaneGoClearFault tag (laneNo i) s) := by
  refine live_refused hr ?_
  simp only [laneIx_laneNo]
  split
  · next h => exact absurd h hfault
  all_goals rfl

theorem execReadStatusLane_badValue {n : Nat} (hr : s.resetAsserted = false) (h : 12 < n) :
    Refused s tag 20 .badValue (execReadStatusLane tag n s) := by
  refine live_refused hr ?_
  rw [if_neg (by omega)]
  simp only [laneIx_none (.inr h)]

/-! ## Stations -/

theorem execStationGoListen_badState {st : Fin 8} (hr : s.resetAsserted = false)
    (hoff : (s.stations[st]).state ≠ .off) (hlost : (s.stations[st]).state ≠ .lost) :
    Refused s tag 24 .badState (execStationGoListen tag (stationNo st) s) := by
  refine live_refused hr ?_
  simp only [stationIx_stationNo]
  split
  · next h => exact absurd h hoff
  · next h => exact absurd h hlost
  all_goals rfl

theorem execStationGoOperate_badState {st : Fin 8} (hr : s.resetAsserted = false)
    (hstandby : (s.stations[st]).state ≠ .standby) (hpaused : (s.stations[st]).state ≠ .paused) :
    Refused s tag 24 .badState (execStationGoOperate tag (stationNo st) s) := by
  refine live_refused hr ?_
  simp only [stationIx_stationNo]
  split
  · next h => exact absurd h hstandby
  · next h => exact absurd h hpaused
  all_goals rfl

theorem execStationGoPause_badState {st : Fin 8} (hr : s.resetAsserted = false)
    (hoperating : (s.stations[st]).state ≠ .operating) :
    Refused s tag 24 .badState (execStationGoPause tag (stationNo st) s) := by
  refine live_refused hr ?_
  simp only [stationIx_stationNo]
  split
  · next h => exact absurd h hoperating
  all_goals rfl

/-! ## Parameters -/

theorem Parameters.set_eq_none {n v : Nat} (p : Parameters)
    (h : n = 0 ∨ 9 < n ∨ n = 3 ∧ Disposition.ofCode v = none) : p.set n v = none := by
  unfold Parameters.set
  split
  case h_3 => simp [(h.resolve_left (by omega)).resolve_left (by omega)]
  case h_8 => rfl
  all_goals omega

theorem execSetParameter_badValue {n v : Nat} (hr : s.resetAsserted = false)
    (h : n = 0 ∨ 9 < n ∨ n = 3 ∧ Disposition.ofCode v = none) :
    Refused s tag 25 .badValue (execSetParameter tag n v s) := by
  refine live_refused hr ?_
  split
  · omega
  · omega
  · simp only [Parameters.set_eq_none s.params h]

end

/-- Settles O51: each refusal by the lemma of its command. -/
theorem refusedCommandChangesNothing : Obligations.RefusedCommandChangesNothing := by
  unfold Obligations.RefusedCommandChangesNothing
  intro tag c code result s hr h
  change Refused s tag code result (exec c s)
  rcases h with ⟨n, sp, rfl, hbad, rfl, rfl⟩ | ⟨n, rfl, hbad, rfl, rfl⟩ |
    ⟨slot, rfl, hbad, rfl, rfl⟩ | ⟨n, raw, rfl, hbad, rfl, rfl⟩ | ⟨n, v, k, r, rfl, hbad, rfl, rfl⟩ |
    ⟨n, v, k, r, d, rc, f, e, rfl, hlow, hhigh, hd, hf, hkind, hroute, rfl, rfl⟩ |
    ⟨n, rfl, rfl, hcase⟩ | ⟨n, k, rfl, rfl, hcase⟩ | ⟨n, hc, rfl, hcase⟩ | ⟨n, rfl, rfl, hcase⟩ |
    ⟨lane, k, r, p, f, w, rfl, rfl, rfl, hbad⟩ | ⟨lane, hc, hbad, rfl, rfl⟩ |
    ⟨i, rfl, rfl, hcase⟩ | ⟨n, rfl, hbad, rfl, rfl⟩ | ⟨n, rfl, hbad, rfl, rfl⟩ |
    ⟨n, hc, hbad, rfl, rfl⟩ | ⟨st, rfl, rfl, hcase⟩ | ⟨n, v, rfl, hbad, rfl, rfl⟩
  · exact execReadArticleKey_badValue hr hbad
  · exact execReadArticleLookup_badValue hr hbad
  · exact execClearKey_badValue hr hbad
  · exact execReferralAnswerEntry_badValue hr hbad
  · exact execReferralAnswerDecide_badValue hr hbad
  · exact execReferralAnswerDecide_disagrees hr hlow hhigh hd hf hkind hroute
  · exact execReadSessionRecord_refused hr hcase
  · exact execReadSessionLines_refused hr hcase
  · rcases hc with rfl | rfl | rfl
    all_goals exact live_refused hr (State.onStopped_refuses _ hcase)
  · exact execVoucherControlAbort_refused hr hcase
  · exact execSetLane_badValue hr hbad
  · have hlane := laneIx_none hbad
    rcases hc with rfl | rfl | rfl
    all_goals
      simp only [exec]
      refine live_refused hr ?_
      simp only [hlane]
  · rcases hcase with ⟨rfl, hstate⟩ | ⟨rfl, hopen, hrest⟩ | ⟨rfl, hfault⟩
    · exact execLaneGoOpen_badState hr hstate
    · exact execLaneGoDrain_badState hr hopen hrest
    · exact execLaneGoClearFault_badState hr hfault
  · have hstation := stationIx_none hbad
    simp only [exec]
    refine live_refused hr ?_
    simp only [hstation]
  · exact execReadStatusLane_badValue hr hbad
  · have hstation := stationIx_none hbad
    rcases hc with rfl | rfl | rfl | rfl
    all_goals
      simp only [exec]
      refine live_refused hr ?_
      simp only [hstation]
  · rcases hcase with ⟨rfl, hoff, hlost⟩ | ⟨rfl, hstandby, hpaused⟩ | ⟨rfl, hoperating⟩
    · exact execStationGoListen_badState hr hoff hlost
    · exact execStationGoOperate_badState hr hstandby hpaused
    · exact execStationGoPause_badState hr hoperating
  · exact execSetParameter_badValue hr hbad

end Sys2Proof.Machine
end

section
/-! PROOFS. The RETURN of each step of an evaluation, and the tests of its steps 5 and 6. -/

namespace Sys2Proof.Machine

-- One theorem after another: many that wait for the kernel at once take threads and memory.
set_option Elab.async false

/-! ## The records of sessions after a change -/

/-- A change that keeps the number is read back from the record that it changed. -/
theorem State.onSession_session? (s : State) (n : Nat) (f : Session → Session)
    (hnumber : ∀ x, (f x).number = x.number) :
    (s.onSession n f).session? n = (s.session? n).map f := by
  unfold State.session?
  rw [State.onSession_sessions, List.find?_map]
  have hsame : ((fun x : Session => x.number == n) ∘ fun x => if x.number = n then f x else x) =
      fun x => x.number == n := by
    funext x
    by_cases h : x.number = n <;> simp [h, hnumber]
  rw [hsame]
  cases hx : s.sessions.find? (·.number == n) with
  | none => rfl
  | some x => simp [State.session?_number (s := s) hx]

/-- A change that keeps station and state leaves each station its current session. -/
theorem State.onSession_current? (s : State) (n : Nat) (f : Session → Session) (st : Fin 8)
    (hstation : ∀ x, (f x).station = x.station) (hstate : ∀ x, (f x).state = x.state) :
    (s.onSession n f).current? st =
      (s.current? st).map fun x => if x.number = n then f x else x := by
  unfold State.current?
  rw [State.onSession_sessions, List.find?_map]
  have hsame : ((fun x : Session => x.station == st && x.isCurrent) ∘
      fun x => if x.number = n then f x else x) = fun x => x.station == st && x.isCurrent := by
    funext x
    by_cases h : x.number = n <;> simp [h, hstation, hstate, Session.isCurrent]
  rw [hsame]

/-- The current session of a station is the record that its number names (R61, R62). -/
theorem State.session?_of_current? {s : State} {st : Fin 8} {x : Session} (hs : SessionsOk s)
    (h : s.current? st = some x) : s.session? x.number = some x := by
  obtain ⟨-, hsorted, -⟩ := hs
  have hx : x ∈ s.sessions := List.mem_of_find?_eq_some h
  have hfound : (s.session? x.number).isSome := by
    unfold State.session?
    exact List.find?_isSome.2 ⟨x, hx, by simp⟩
  obtain ⟨y, hy⟩ := Option.isSome_iff_exists.1 hfound
  rw [hy, session_unique hsorted (List.mem_of_find?_eq_some hy) hx (State.session?_number hy)]

/-- A session record with its idle timer started again at a time (R64). -/
def Session.touched (s : State) (x : Session) : Session :=
  { x with lastItem := s.now, idleExpiry := idleExpiryAt s.now s.params.idleTime }

theorem State.touch_session? (s : State) (n : Nat) :
    (s.touch n).session? n = (s.session? n).map (Session.touched s) :=
  State.onSession_session? s n _ fun _ => rfl

theorem State.touch_roomiest (s : State) (n : Nat) (is : List (Fin 12)) :
    (s.touch n).roomiest is = s.roomiest is := by
  induction is with
  | nil => rfl
  | cons i is ih =>
    unfold State.roomiest
    rw [ih]
    rfl

/-- Lane choice looks at no session. -/
theorem State.touch_chooseLane (s : State) (n : Nat) (route : RouteClass) (fill : Lane → Nat)
    (out : Option (Fin 12)) : (s.touch n).chooseLane route fill out = s.chooseLane route fill out :=
  State.touch_roomiest s n _

/-- The RETURN of a station is the same after its idle timer was started again. -/
theorem returnVerdict_touch (s : State) (n : Nat) (st : Fin 8) (seq : Nat) (r : ReturnReason) :
    returnVerdict (s.touch n) st seq r = returnVerdict s st seq r := by
  have hcurrent : (s.touch n).current? st =
      (s.current? st).map fun x => if x.number = n then x.touched s else x :=
    State.onSession_current? s n _ st (fun _ => rfl) fun _ => rfl
  unfold returnVerdict
  rw [hcurrent]
  cases s.current? st with
  | none => rfl
  | some x => by_cases h : x.number = n <;> simp [h, Session.touched]

/-- The steps look at no idle timer. -/
theorem StepFails.touch {s : State} {x : Session} {r : Report} {reason : ReturnReason} (n : Nat)
    (h : StepFails s x r reason) : StepFails (s.touch n) (x.touched s) r reason := by
  unfold StepFails at h ⊢
  simp only [State.touch_chooseLane]
  exact h

/-! ## Steps 1 and 2: the RETURNs that open no session -/

/-- A final RETURN is counted, and its VERDICT is all that it sends (R24, R153). -/
theorem State.returnItem_sends (st : Fin 8) (seq : Nat) (r : ReturnReason) (s : State) :
    Sends [returnVerdict s st seq r] [] (s.countReturn r) (s.returnItem st seq r) :=
  State.place_sends_front rfl _

/-- A report whose evaluation is a RETURN on a state that is `s` with an idle timer started again. -/
theorem exec_itemReport_returns {src : Nat} {payload : List Byte} {st : Fin 8} {r : Report}
    {reason : ReturnReason} {s u : State} (hr : s.resetAsserted = false)
    (hst : stationIx src = some st) (hparse : parseReport payload = some r)
    (hverdict : returnVerdict u st r.seq reason = returnVerdict s st r.seq reason)
    (h : s.evaluate st r = u.returnItem st r.seq reason) :
    ∃ t, exec (.itemReport src payload) s = .next t ∧
      Sends [returnVerdict s st r.seq reason] [] (u.countReturn reason) t := by
  simp only [exec]
  refine live_sends hr ?_
  simp only [hst, hparse, h, ← hverdict]
  exact State.returnItem_sends st r.seq reason u

/-- A report whose evaluation changes nothing. -/
theorem exec_itemReport_ignored {src : Nat} {payload : List Byte} {st : Fin 8} {r : Report}
    {s : State} (hr : s.resetAsserted = false) (hst : stationIx src = some st)
    (hparse : parseReport payload = some r) (h : s.evaluate st r = s) :
    exec (.itemReport src payload) s = .next s := by
  simp only [exec, execItemReport]
  rw [live_released hr]
  simp only [hst, hparse, h]

section
variable {s : State} {st : Fin 8} {r : Report}

theorem State.evaluate_outOfService (hoperating : (s.stations[st]).state ≠ .operating)
    (hpaused : (s.stations[st]).state ≠ .paused) : s.evaluate st r = s := by
  unfold State.evaluate
  split
  · next h => exact absurd h hoperating
  · next h => exact absurd h hpaused
  all_goals rfl

theorem State.evaluate_held (hheld : s.isHeld st r.seq = true) : s.evaluate st r = s := by
  unfold State.evaluate
  split
  · exact if_pos hheld
  · exact if_pos hheld
  all_goals rfl

theorem State.evaluate_paused (hstate : (s.stations[st]).state = .paused)
    (hheld : s.isHeld st r.seq = false) :
    s.evaluate st r = s.returnItem st r.seq .paused := by
  unfold State.evaluate
  simp only [hstate, hheld, Bool.false_eq_true, if_false]

theorem State.evaluate_busy (hstate : (s.stations[st]).state = .operating)
    (hheld : s.isHeld st r.seq = false) (hbusy : s.isBusy st = true) :
    s.evaluate st r = s.returnItem st r.seq .busy := by
  unfold State.evaluate
  simp only [hstate, hheld, hbusy, Bool.false_eq_true, if_false, if_true]

theorem State.evaluate_operating (hstate : (s.stations[st]).state = .operating)
    (hheld : s.isHeld st r.seq = false) (hbusy : s.isBusy st = false) :
    s.evaluate st r = s.fromSession st r := by
  unfold State.evaluate
  simp only [hstate, hheld, hbusy, Bool.false_eq_true, if_false]

theorem State.fromSession_closed {x : Session} (hx : s.current? st = some x)
    (hclosed : x.state ≠ .opened) : s.fromSession st r = s.returnItem st r.seq .closed := by
  unfold State.fromSession
  simp only [hx, if_neg hclosed]

theorem State.fromSession_full (hnone : s.current? st = none) (hfull : 16 ≤ s.sessions.length) :
    s.fromSession st r = s.returnItem st r.seq .noSessionRoom := by
  unfold State.fromSession
  simp only [hnone, Config.maxSessions, if_neg (Nat.not_lt.2 hfull)]

theorem State.fromSession_opened {x : Session} (hx : s.current? st = some x)
    (hopened : x.state = .opened) :
    s.fromSession st r = (s.touch x.number).fromCode st x.number r := by
  unfold State.fromSession
  simp only [hx, if_pos hopened]

end

/-! ## Steps 3 to 9: the step that fails -/

theorem Referral.isMiss_iff (n : Nat) (f : Referral) : f.isMiss n = true ↔ IsMissOf n f := by
  unfold Referral.isMiss IsMissOf
  cases f.kind <;> simp

theorem State.referralRoom_eq_false_iff (s : State) :
    s.referralRoom = false ↔ NoReferralRoom s := by
  simp only [State.referralRoom, NoReferralRoom, Config.maxReferrals, Config.maxWaiting,
    Bool.and_eq_false_iff, decide_eq_false_iff_not, Nat.not_lt]

theorem sessionFull_iff (x : Session) (c : Nat) :
    sessionFull x c = true ↔ 9999 ≤ x.accepted ∨ 0 < c ∧ x.cap ≤ x.credit := by
  simp [sessionFull, Config.maxAccepted]

/-- The miss that the Referral List cannot take (R50). -/
theorem State.requestMiss_returns {s : State} {n : Nat} {w : Waiting}
    (h : 8 ≤ s.waitingItems.length ∨
      (∀ f ∈ s.referrals, ¬IsMissOf n f) ∧ 4 ≤ s.referrals.length) :
    s.requestMiss n w = s.returnItem w.station w.report.seq .unknown := by
  unfold State.requestMiss
  split
  · next hany =>
    obtain ⟨f, hf, hmiss⟩ := List.any_eq_true.1 hany
    have hwaiting := h.resolve_right fun hnone => hnone.1 f hf ((f.isMiss_iff n).1 hmiss)
    exact if_neg (Nat.not_lt.2 hwaiting)
  · have hroom : s.referralRoom = false :=
      s.referralRoom_eq_false_iff.2 (h.elim .inr fun hnone => .inl hnone.2)
    simp only [hroom, Bool.false_eq_true, if_false]

/-- The refer that the Referral List cannot take (R51). -/
theorem State.requestDecision_returns {s : State} {n : Nat} {e : Entry} {w : Waiting}
    (h : NoReferralRoom s) :
    s.requestDecision n e w = s.returnItem w.station w.report.seq .referBusy := by
  unfold State.requestDecision
  simp only [s.referralRoom_eq_false_iff.2 h, Bool.false_eq_true, if_false]

/-- The item credit of an accepted item is its own portion and its bottle portion (R37). -/
theorem State.itemCredit_acceptOf (s : State) (w : Waiting) (e : Entry) (set : Rights)
    (credit : Bool) (row : Fin 5) (hbottle : w.bottle = bottleLookup s.articles e) :
    s.itemCredit (acceptOf s.keys w e set credit row) =
      ownCredit s e credit + bottleCredit s e w.report := by
  have hportion : s.bottlePortion (acceptOf s.keys w e set credit row) =
      bottleCredit s e w.report := by
    simp only [State.bottlePortion, acceptOf, bottleCredit, earningBottle]
    cases hbody : e.body with
    | container m mass tol res vol => simp [Entry.kind, bottlesOf, bottleLookup, hbody]
    | crate slots number =>
      simp only [Entry.kind, hbody, bottlesOf, settleBottles, hbottle]
      cases bottleLookup s.articles e with
      | none => rfl
      | some b =>
        cases hearns : (bottleRights s.keys b).1 <;>
          simp [hearns, Option.filter, ownBottles, foreignBottles]
  unfold State.itemCredit
  rw [hportion]
  rfl

/-- Steps 7 and 9 (R38, R40). -/
theorem State.fromCap_returns {s : State} {a : Accept} {x : Session} {reason : ReturnReason}
    (hx : s.session? a.item.session = some x)
    (h : sessionFull x (s.itemCredit a) = true ∧ reason = .sessionFull ∨
      sessionFull x (s.itemCredit a) = false ∧
        s.chooseLane a.route (itemFill a.kind a.volume) none = none ∧ reason = .cornerFull) :
    s.fromCap a = s.returnItem a.item.station a.item.report.seq reason := by
  unfold State.fromCap
  simp only [hx]
  rcases h with ⟨hfull, rfl⟩ | ⟨hroom, hlane, rfl⟩
  · rw [if_pos hfull]
  · simp only [hroom, hlane, Bool.false_eq_true, if_false]

/-- The step that fails gives the RETURN of a report (R30 to R40). -/
theorem State.fromCode_returns {s : State} {st : Fin 8} {n : Nat} {x : Session} {r : Report}
    {reason : ReturnReason} (hx : s.session? n = some x) (h : StepFails s x r reason) :
    s.fromCode st n r = s.returnItem st r.seq reason := by
  unfold State.fromCode
  rcases h with ⟨hnumber, rfl⟩ | ⟨article, hnumber, hstep⟩
  · simp only [hnumber]
  simp only [hnumber, State.fromLookup]
  rcases hstep with ⟨hlookup, rfl, hroom⟩ | ⟨e, hlookup, hstep⟩
  · simp only [hlookup, State.requestMiss_returns hroom]
  simp only [hlookup]
  rcases hstep with hfails | ⟨mark, hpasses, hstep⟩
  · simp only [hfails]
  simp only [hpasses, State.fromRights]
  rcases hstep with ⟨hrights, rfl⟩ | ⟨hrights, rfl⟩ | ⟨hrights, hroom, rfl⟩ |
    ⟨set, credit, row, hrights, hstep⟩
  · simp only [hrights]
  · simp only [hrights]
  · simp only [hrights, State.requestDecision_returns hroom]
  simp only [hrights]
  refine State.fromCap_returns (x := x) hx ?_
  rw [State.itemCredit_acceptOf _ _ _ _ _ _ rfl, ← Bool.not_eq_true, sessionFull_iff]
  exact hstep

/-! ## Step 5: plausibility -/

theorem heightOk_eq_false_iff (e : Entry) (r : Report) : heightOk e r = false ↔
    e.nominalHeight + e.heightTolerance < r.height ∨
      r.height < e.nominalHeight - e.heightTolerance := by
  simp only [heightOk, Bool.and_eq_false_iff, decide_eq_false_iff_not, Nat.not_le]
  exact or_comm

theorem materialOk_eq_false_iff (m : Material) (r : Report) : materialOk m r = false ↔
    r.signature ≠ none ∧ r.signature ≠ some m := by
  unfold materialOk
  cases r.signature <;> simp

/-- The height test of a crate (R33). -/
theorem plausibility_crate {e : Entry} {slots bottle : Nat} (r : Report)
    (hbody : e.body = .crate slots bottle) :
    plausibility e r = if heightOk e r then .ok false else .error .shape := by
  simp only [plausibility, hbody]

/-- The tests of a container, in their order (R32 to R34). -/
theorem plausibility_container {e : Entry} {m : Material} {mass tol res vol : Nat} (r : Report)
    (hbody : e.body = .container m mass tol res vol) :
    plausibility e r =
      if materialOk m r = false then .error .material
      else if heightOk e r = false then .error .shape
      else massTest mass tol res r.mass := by
  simp only [plausibility, hbody, Bool.not_eq_true']

theorem massTest_none (nominal tol res : Nat) : massTest nominal tol res none = .ok false := rfl

/-- The four ranges of a measured mass (R34). -/
theorem massTest_some (nominal tol res g : Nat) :
    (g < nominal - tol → massTest nominal tol res (some g) = .error .underweight) ∧
    (nominal - tol ≤ g → g ≤ nominal + tol → massTest nominal tol res (some g) = .ok false) ∧
    (nominal + tol < g → g ≤ nominal + tol + res → massTest nominal tol res (some g) = .ok true) ∧
    (nominal + tol + res < g → massTest nominal tol res (some g) = .error .overweight) := by
  simp only [massTest]
  refine ⟨fun h => if_pos h, fun hlow hhigh => ?_, fun hlow hhigh => ?_, fun h => ?_⟩
  · rw [if_neg (by omega), if_neg (by omega), decide_eq_false (by omega)]
  · rw [if_neg (by omega), if_neg (by omega), decide_eq_true hlow]
  · rw [if_neg (by omega), if_pos h]

/-! ## Step 6: rights -/

/-- The key of a slot gives an entry a right (R13, R14). -/
def SlotGives (keys : Vector (Option SchemeKey) 4) (e : Entry) (right : Rights → Bool) (i : Fin 4) :
    Prop := ∃ k, keys[i] = some k ∧ right (e.triple k) = true

section
variable {keys : Vector (Option SchemeKey) 4} {e : Entry} {right : Rights → Bool}

theorem mem_slotKeys (p : Fin 5 × SchemeKey) :
    p ∈ slotKeys keys ↔ ∃ i : Fin 4, keys[i] = some p.2 ∧ p.1 = i.succ := by
  obtain ⟨row, k⟩ := p
  simp [slotKeys, Fin.exists_fin_succ, eq_comm]

/-- A right is in a union of triples where it is in one of them. -/
theorem foldl_union_has (hunion : ∀ a b, right (a.union b) = (right a || right b))
    (ps : List (Fin 5 × SchemeKey)) (a : Rights) :
    right (ps.foldl (fun r p => r.union (e.triple p.2)) a) =
      (right a || ps.any fun p => right (e.triple p.2)) := by
  induction ps generalizing a with
  | nil => simp
  | cons p ps ih => rw [List.foldl_cons, ih, hunion, List.any_cons, Bool.or_assoc]

/-- The computed right set holds the rights that some slot gives (R14). -/
theorem rightSet_has_iff (hunion : ∀ a b, right (a.union b) = (right a || right b))
    (hempty : right ⟨false, false, false⟩ = false) :
    right (rightSet keys e) = true ↔ ∃ j, SlotGives keys e right j := by
  rw [rightSet, foldl_union_has hunion, hempty, Bool.false_or, List.any_eq_true]
  constructor
  · rintro ⟨p, hp, hright⟩
    obtain ⟨j, hkey, -⟩ := (mem_slotKeys p).1 hp
    exact ⟨j, p.2, hkey, hright⟩
  · rintro ⟨j, k, hkey, hright⟩
    exact ⟨(j.succ, k), (mem_slotKeys _).2 ⟨j, hkey, rfl⟩, hright⟩

theorem rightSet_credit_iff :
    (rightSet keys e).credit = true ↔ ∃ j, SlotGives keys e Rights.credit j :=
  rightSet_has_iff (fun _ _ => rfl) rfl

theorem rightSet_take_iff :
    (rightSet keys e).take = true ↔ ∃ j, SlotGives keys e Rights.take j :=
  rightSet_has_iff (fun _ _ => rfl) rfl

theorem rightSet_refill_iff :
    (rightSet keys e).refill = true ↔ ∃ j, SlotGives keys e Rights.refill j :=
  rightSet_has_iff (fun _ _ => rfl) rfl

/-- The slots' keys stand in the order of their rows. -/
theorem slotKeys_sorted (keys : Vector (Option SchemeKey) 4) :
    (slotKeys keys).Pairwise fun p q => p.1 < q.1 := by
  refine List.Pairwise.filterMap _ (R := fun p q => p.1 < q.1) ?_ (by simp)
  rintro p q hlt _ hp _ hq
  obtain ⟨_, -, rfl⟩ := Option.map_eq_some_iff.1 hp
  obtain ⟨_, -, rfl⟩ := Option.map_eq_some_iff.1 hq
  exact hlt

/-- The row of the lowest slot that gives a right (R14). -/
theorem rowOf_first {i : Fin 4} (hgives : SlotGives keys e right i)
    (hfirst : ∀ j < i, ¬SlotGives keys e right j) : rowOf keys e right = i.succ := by
  obtain ⟨k, hkey, hright⟩ := hgives
  have hmem : (i.succ, k) ∈ slotKeys keys := (mem_slotKeys _).2 ⟨i, hkey, rfl⟩
  have hfound : ((slotKeys keys).find? fun p => right (e.triple p.2)).isSome :=
    List.find?_isSome.2 ⟨_, hmem, hright⟩
  obtain ⟨q, hq⟩ := Option.isSome_iff_exists.1 hfound
  obtain ⟨hqright, before, behind, hsplit, hbefore⟩ := List.find?_eq_some_iff_append.1 hq
  have hqmem : q ∈ slotKeys keys := List.mem_of_find?_eq_some hq
  obtain ⟨j, hqkey, hqrow⟩ := (mem_slotKeys q).1 hqmem
  have hnotBefore : ¬j < i := fun hlt => hfirst j hlt ⟨q.2, hqkey, hqright⟩
  have hnotBehind : ¬i < j := by
    intro hlt
    have hsorted := slotKeys_sorted keys
    rw [hsplit] at hmem hsorted
    obtain ⟨-, hsorted, -⟩ := List.pairwise_append.1 hsorted
    rcases List.mem_append.1 hmem with hmem | hmem
    · exact absurd hright (by simpa using hbefore _ hmem)
    rcases List.mem_cons.1 hmem with rfl | hmem
    · exact hlt.ne (Fin.succ_injective _ hqrow)
    · have hrow : q.1 < i.succ := (List.pairwise_cons.1 hsorted).1 _ hmem
      rw [hqrow] at hrow
      exact absurd (Fin.succ_lt_succ_iff.1 hrow) hlt.not_gt
  have hij : j = i := le_antisymm (not_lt.1 hnotBehind) (not_lt.1 hnotBefore)
  simp [rowOf, hq, hqrow, hij]

/-- The rights determination under an enabled key list (R15). -/
theorem rightsOf_enabled (hcheck : e.check = .strict ∨ e.check = .referOnFail)
    (henabled : keys[0] ≠ none) :
    rightsOf keys e =
      acceptComputed keys e (if e.check = .strict then .returnRights else .refer) := by
  have hkeys : keysEnabled keys = true := Option.isSome_iff_ne_none.2 henabled
  rcases hcheck with h | h <;> simp [rightsOf, h, hkeys]

end

/-- Accepted with CREDIT in the row of the lowest slot that gives it (R14, R15). -/
theorem acceptComputed_credit {keys : Vector (Option SchemeKey) 4} {e : Entry}
    {otherwise : RightsOutcome} {i : Fin 4} (hgives : SlotGives keys e Rights.credit i)
    (hfirst : ∀ j < i, ¬SlotGives keys e Rights.credit j) :
    acceptComputed keys e otherwise = .accept (rightSet keys e) true i.succ := by
  have hcredit : (rightSet keys e).credit = true := rightSet_credit_iff.2 ⟨i, hgives⟩
  simp only [acceptComputed, hcredit, if_true, rowOf_first hgives hfirst]

/-- Accepted with TAKE in the row of the lowest slot that gives it, where none gives CREDIT (R14, R15). -/
theorem acceptComputed_take {keys : Vector (Option SchemeKey) 4} {e : Entry}
    {otherwise : RightsOutcome} {i : Fin 4} (hnone : ∀ j, ¬SlotGives keys e Rights.credit j)
    (hgives : SlotGives keys e Rights.take i) (hfirst : ∀ j < i, ¬SlotGives keys e Rights.take j) :
    acceptComputed keys e otherwise = .accept (rightSet keys e) false i.succ := by
  have hcredit : ¬(rightSet keys e).credit = true :=
    fun h => absurd (rightSet_credit_iff.1 h) (not_exists.2 hnone)
  have htake : (rightSet keys e).take = true := rightSet_take_iff.2 ⟨i, hgives⟩
  simp only [acceptComputed, hcredit, htake, Bool.false_eq_true, if_false, if_true,
    rowOf_first hgives hfirst]

/-- Neither CREDIT nor TAKE (R15). -/
theorem acceptComputed_otherwise {keys : Vector (Option SchemeKey) 4} {e : Entry}
    {otherwise : RightsOutcome}
    (hnone : ∀ j, ¬SlotGives keys e Rights.credit j ∧ ¬SlotGives keys e Rights.take j) :
    acceptComputed keys e otherwise = otherwise := by
  have hcredit : ¬(rightSet keys e).credit = true :=
    fun h => absurd (rightSet_credit_iff.1 h) (not_exists.2 fun j => (hnone j).1)
  have htake : ¬(rightSet keys e).take = true :=
    fun h => absurd (rightSet_take_iff.1 h) (not_exists.2 fun j => (hnone j).2)
  simp only [acceptComputed, hcredit, htake, Bool.false_eq_true, if_false]

/-- The modes that ask no key, and an empty slot 1, accept under the OWN triple (R12, R15). -/
theorem rightsOf_own {keys : Vector (Option SchemeKey) 4} {e : Entry}
    (h : e.check = .opened ∨ (e.check = .strict ∨ e.check = .referOnFail) ∧ keys[0] = none) :
    rightsOf keys e = .accept e.own e.own.credit 0 := by
  rcases h with hcheck | ⟨hcheck | hcheck, hempty⟩
  · simp only [rightsOf, hcheck, acceptOwn]
  all_goals simp [rightsOf, hcheck, keysEnabled, hempty, acceptOwn]

theorem Entry.triple_eq (e : Entry) (k : SchemeKey) :
    e.triple k = if k.scheme ≠ e.scheme then e.foreign
      else if k.producer = e.producer then e.own else e.partner := by
  unfold Entry.triple
  rw [ite_not]

/-! ## The statement -/

/-- Settles O19: the steps of a report by the branch of `evaluate` that they are, then steps 5 and 6
by their tests. -/
theorem stepOneTestsStationAndSequence : Obligations.StepOneTestsStationAndSequence := by
  unfold Obligations.StepOneTestsStationAndSequence
  refine ⟨fun src payload st r s hr hst hparse => ⟨?_, ?_, ?_, ?_, ?_⟩,
    fun e r => ⟨fun slots bottle hbody => ?_, fun m mass tol res vol hbody => ?_⟩,
    fun keys e => ⟨e.triple_eq, ?_, ?_, rightsOf_own, fun hcheck henabled => ?_⟩⟩
  · rintro ⟨hoperating, hpaused⟩
    exact exec_itemReport_ignored hr hst hparse (State.evaluate_outOfService hoperating hpaused)
  · intro hheld
    exact exec_itemReport_ignored hr hst hparse (State.evaluate_held hheld)
  · intro hstate hheld
    exact exec_itemReport_returns hr hst hparse rfl (State.evaluate_paused hstate hheld)
  · intro hstate hheld hbusy
    exact exec_itemReport_returns hr hst hparse rfl (State.evaluate_busy hstate hheld hbusy)
  · intro hstate hheld hbusy
    have hevaluate := State.evaluate_operating (r := r) hstate hheld hbusy
    refine ⟨fun x hx hclosed => ?_, fun hnone hfull => ?_, fun x reason hs hx hopened hfails => ?_⟩
    · exact exec_itemReport_returns hr hst hparse rfl
        (hevaluate.trans (State.fromSession_closed hx hclosed))
    · exact exec_itemReport_returns hr hst hparse rfl
        (hevaluate.trans (State.fromSession_full hnone hfull))
    · have htouched : (s.touch x.number).session? x.number = some (x.touched s) := by
        rw [State.touch_session?, State.session?_of_current? hs hx]
        rfl
      exact exec_itemReport_returns hr hst hparse (returnVerdict_touch s _ st r.seq reason)
        (hevaluate.trans ((State.fromSession_opened hx hopened).trans
          (State.fromCode_returns htouched (hfails.touch x.number))))
  · rw [plausibility_crate r hbody, ← heightOk_eq_false_iff]
    exact ⟨fun h => by simp [h], fun h => by simp [eq_true_of_ne_false h]⟩
  · rw [plausibility_container r hbody, ← heightOk_eq_false_iff, ← materialOk_eq_false_iff]
    refine ⟨fun h => if_pos h, fun hm h => by rw [if_neg hm, if_pos h], fun hm hh => ?_⟩
    rw [if_neg hm, if_neg hh]
    refine ⟨fun hmass => by rw [hmass, massTest_none], fun g hmass => ?_⟩
    rw [hmass]
    exact massTest_some mass tol res g
  · intro hcheck
    simp only [rightsOf, hcheck]
  · intro hcheck
    simp only [rightsOf, hcheck]
  · rw [rightsOf_enabled hcheck henabled]
    refine ⟨fun i hgives hfirst => ?_, fun i hnone hgives hfirst => ?_, fun hnone => ?_⟩
    · exact ⟨_, acceptComputed_credit hgives hfirst, rightSet_refill_iff⟩
    · exact ⟨_, acceptComputed_take hnone hgives hfirst, rightSet_refill_iff⟩
    · exact acceptComputed_otherwise hnone

end Sys2Proof.Machine
end

section
/-! SUPPORT. The back room by lane: how orders move inside their lanes (`Moves`), which fields the moves of
a pipeline can change (`PipeOnly`), and what an order that joins a lane leaves (`Joined`). -/

namespace Sys2Proof.Machine

-- One theorem after another: many that wait for the kernel at once take threads and memory.
set_option Elab.async false

/-! ## Fields that moving orders can change -/

/-- `t` differs from `s` at most in the back port, the serial, the pipelines and the stroke budget. -/
def PipeOnly (s t : State) : Prop :=
  t = { s with serial := t.serial, back := t.back, pipes := t.pipes, strokes := t.strokes,
               pointer := t.pointer }

theorem PipeOnly.refl (s : State) : PipeOnly s s := rfl

theorem PipeOnly.trans {s t u : State} (h : PipeOnly s t) (k : PipeOnly t u) : PipeOnly s u := by
  unfold PipeOnly at *
  rw [k, h]

theorem PipeOnly.lanes {s t : State} (h : PipeOnly s t) : t.lanes = s.lanes := by rw [h]

theorem State.stage_pipeOnly (i : Fin 12) (s : State) : PipeOnly s (s.stage i) := by
  unfold State.stage
  dsimp only
  split
  · split <;> rfl
  · rfl

theorem State.enterDropping_pipeOnly (i : Fin 12) (s : State) : PipeOnly s (s.enterDropping i) := by
  unfold State.enterDropping
  split
  · rfl
  · exact PipeOnly.trans (by rfl) (State.stage_pipeOnly i _)

theorem State.grant_pipeOnly (i : Fin 12) (w : Nat) (s : State) : PipeOnly s (s.grant i w) :=
  PipeOnly.trans (by rfl) (State.enterDropping_pipeOnly i _)

theorem State.grantInTurn_pipeOnly (n : Nat) (s : State) : PipeOnly s (State.grantInTurn n s) := by
  induction n generalizing s with
  | zero => rfl
  | succ n ih =>
    unfold State.grantInTurn
    split
    · rfl
    · split
      · rfl
      · split
        · exact (State.grant_pipeOnly _ _ s).trans (ih _)
        · rfl

theorem State.consider_pipeOnly (s : State) : PipeOnly s s.consider := by
  unfold State.consider
  split
  · rfl
  · exact State.grantInTurn_pipeOnly 12 s

theorem State.requestStroke_pipeOnly (i : Fin 12) (s : State) : PipeOnly s (s.requestStroke i) :=
  PipeOnly.trans (by rfl) (State.consider_pipeOnly _)

theorem State.withdrawStroke_pipeOnly (i : Fin 12) (s : State) : PipeOnly s (s.withdrawStroke i) := by
  unfold State.withdrawStroke
  split
  · exact PipeOnly.trans (by rfl) (State.consider_pipeOnly _)
  · rfl

theorem State.startDrop_pipeOnly (i : Fin 12) (s : State) : PipeOnly s (s.startDrop i) := by
  unfold State.startDrop
  dsimp only
  split
  · split
    · exact State.enterDropping_pipeOnly i s
    all_goals
      split
      · rfl
      · exact State.requestStroke_pipeOnly i s
  · rfl

theorem State.advance_pipeOnly (i : Fin 12) (s : State) : PipeOnly s (s.advance i) :=
  (State.stage_pipeOnly i s).trans (State.startDrop_pipeOnly i _)

theorem State.appendOrder_pipeOnly (i : Fin 12) (o : Order) (s : State) :
    PipeOnly s (s.appendOrder i o) :=
  PipeOnly.trans (by rfl) (State.advance_pipeOnly i _)

@[simp] theorem State.consider_lanes (s : State) : s.consider.lanes = s.lanes :=
  (State.consider_pipeOnly s).lanes
@[simp] theorem State.withdrawStroke_lanes (i : Fin 12) (s : State) :
    (s.withdrawStroke i).lanes = s.lanes := (State.withdrawStroke_pipeOnly i s).lanes
@[simp] theorem State.advance_lanes (i : Fin 12) (s : State) : (s.advance i).lanes = s.lanes :=
  (State.advance_pipeOnly i s).lanes
@[simp] theorem State.appendOrder_lanes (i : Fin 12) (o : Order) (s : State) :
    (s.appendOrder i o).lanes = s.lanes := (State.appendOrder_pipeOnly i o s).lanes

/-! ## Moves of orders inside a lane -/

/-- The moves of a pipeline whose lane has the record `l`: an order is staged (R122), the staged order
drops (R123), a stroke request is placed for it (R138), and a request is taken away (R142, R144). -/
inductive Moves (l : Lane) : Pipeline → Pipeline → Prop
  | refl (p : Pipeline) : Moves l p p
  | trans {p q r : Pipeline} (h : Moves l p q) (k : Moves l q r) : Moves l p r
  | staged {p : Pipeline} {o : Order} {rest : List Order} (hruns : l.state.runs = true)
      (hstaged : p.staged = none) (hqueue : p.queue = o :: rest) :
      Moves l p { p with staged := some o, queue := rest }
  | dropped {p : Pipeline} {o : Order} (go : Nat) (hruns : l.state.runs = true)
      (hrequest : p.request = false) (hstaged : p.staged = some o) (hdropping : p.dropping = none) :
      Moves l p { p with staged := none, dropping := some ⟨o, false, none, go⟩ }
  | requested {p : Pipeline} (hruns : l.state.runs = true) (hkind : l.kind ≠ .loose)
      (hstaged : p.staged.isSome = true) (hdropping : p.dropping = none) :
      Moves l p { p with request := true }
  | withdrawn (p : Pipeline) : Moves l p { p with request := false }

/-- A stroke request waits only for a staged order of a stroke lane that runs (R123, R138, R144). -/
def requestOk (l : Lane) (p : Pipeline) : Prop :=
  p.request = true →
    p.staged.isSome = true ∧ p.dropping = none ∧ l.state.runs = true ∧ l.kind ≠ .loose

theorem requestOk_of_none {l : Lane} {p : Pipeline} (h : p.request = false) : requestOk l p := by
  simp [requestOk, h]

/-- No order leaves its lane by a move, and none overtakes another. -/
theorem Moves.orders {l : Lane} {p q : Pipeline} (h : Moves l p q) : q.orders = p.orders := by
  induction h with
  | trans _ _ h k => exact k.trans h
  | staged _ hstaged hqueue => simp [Pipeline.orders, hstaged, hqueue]
  | dropped _ _ _ hstaged hdropping => simp [Pipeline.orders, hstaged, hdropping]
  | _ => rfl

theorem Moves.requestOk {l : Lane} {p q : Pipeline} (h : Moves l p q) (hp : requestOk l p) :
    requestOk l q := by
  induction h with
  | refl => exact hp
  | trans _ _ h k => exact k (h hp)
  | staged _ hstaged _ =>
    intro hrequest
    have := (hp hrequest).1
    simp [hstaged] at this
  | dropped _ _ hrequest => exact requestOk_of_none hrequest
  | requested hruns hkind hstaged hdropping => exact fun _ => ⟨hstaged, hdropping, hruns, hkind⟩
  | withdrawn => exact requestOk_of_none rfl

/-- In a lane that does not run nothing moves but that a request is taken away. -/
theorem Moves.standing {l : Lane} {p q : Pipeline} (h : Moves l p q) (hl : l.state.runs = false) :
    q = p ∨ q = { p with request := false } := by
  induction h with
  | refl => exact .inl rfl
  | withdrawn => exact .inr rfl
  | trans _ _ h k =>
    rcases h with rfl | rfl
    · exact k
    · exact .inr (k.elim id id)
  | staged hruns | dropped _ hruns | requested hruns => rw [hl] at hruns; cases hruns

theorem Moves.queue_length {l : Lane} {p q : Pipeline} (h : Moves l p q) :
    q.queue.length ≤ p.queue.length := by
  induction h with
  | trans _ _ h k => exact k.trans h
  | staged _ _ hqueue => simp [hqueue]
  | _ => exact Nat.le_refl _

/-! ## Moves in a state -/

/-- Every stroke request of the state waits for a staged order of a stroke lane that runs. -/
def RequestsOk (s : State) : Prop := ∀ j : Fin 12, requestOk s.lanes[j] s.pipes[j]

/-- Orders have moved inside their lanes, and nothing else has changed in the back room. -/
structure Moved (s t : State) : Prop where
  only : PipeOnly s t
  pipes : ∀ j : Fin 12, Moves s.lanes[j] s.pipes[j] t.pipes[j]

theorem Moved.refl (s : State) : Moved s s := ⟨.refl s, fun _ => .refl _⟩

theorem Moved.trans {s t u : State} (h : Moved s t) (k : Moved t u) : Moved s u :=
  ⟨h.only.trans k.only, fun j => (h.pipes j).trans (h.only.lanes ▸ k.pipes j)⟩

theorem Moved.requestsOk {s t : State} (h : Moved s t) (hs : RequestsOk s) : RequestsOk t :=
  fun j => h.only.lanes ▸ (h.pipes j).requestOk (hs j)

/-- A change of one pipeline that is a move there. -/
theorem Moved.of_setPipe {i : Fin 12} {p : Pipeline} {s t : State}
    (h : Moves s.lanes[i] s.pipes[i] p) (ht : PipeOnly s t)
    (hpipes : t.pipes = s.pipes.set i.val p i.isLt) : Moved s t := by
  refine ⟨ht, fun j => ?_⟩
  have hget : t.pipes[j] = if i = j then p else s.pipes[j] := by
    rw [← State.setPipe_get]; simp [hpipes]
  rw [hget]
  split
  · next hij => subst hij; exact h
  · exact .refl _

theorem State.stage_moved (i : Fin 12) (s : State) : Moved s (s.stage i) := by
  unfold State.stage
  dsimp only
  split
  · next hstaged hqueue =>
    split
    · next hruns => exact .of_setPipe (.staged hruns hstaged hqueue) rfl rfl
    · exact .refl s
  · exact .refl s

/-- The staged order of a lane that runs drops where nothing drops before it. -/
theorem State.enterDropping_moved {i : Fin 12} {s : State} (hruns : (s.lanes[i]).state.runs = true)
    (hrequest : (s.pipes[i]).request = false) (hdropping : (s.pipes[i]).dropping = none) :
    Moved s (s.enterDropping i) := by
  unfold State.enterDropping
  split
  · exact .refl s
  · next o hstaged =>
    dsimp only
    refine Moved.trans ?_ (State.stage_moved i _)
    exact .of_setPipe (.dropped (s.serial + 1) hruns hrequest hstaged hdropping) rfl rfl

/-- A grant to a lane whose request waits as it should (R142). -/
theorem State.grant_moved {i : Fin 12} {s : State} (w : Nat) (h : requestOk s.lanes[i] s.pipes[i])
    (hrequest : (s.pipes[i]).request = true) : Moved s (s.grant i w) := by
  obtain ⟨-, hdropping, hruns, -⟩ := h hrequest
  unfold State.grant
  dsimp only
  refine Moved.trans ?_ (State.enterDropping_moved (i := i) hruns ?_ ?_)
  · exact .of_setPipe (.withdrawn _) rfl rfl
  · simp
  · simpa using hdropping

/-- The candidate has a request waiting (R140). -/
theorem State.candidate?_request {s : State} {i : Fin 12} (h : s.candidate? = some i) :
    (s.pipes[i]).request = true := by
  simpa using List.find?_some h

theorem State.grantInTurn_moved (n : Nat) {s : State} (h : RequestsOk s) :
    Moved s (State.grantInTurn n s) := by
  induction n generalizing s with
  | zero => exact .refl s
  | succ n ih =>
    unfold State.grantInTurn
    split
    · exact .refl s
    · next i hcandidate =>
      split
      · exact .refl s
      · next w _ =>
        split
        · have hgrant := State.grant_moved w (h i) (State.candidate?_request hcandidate)
          exact hgrant.trans (ih (hgrant.requestsOk h))
        · exact .refl s

theorem State.consider_moved {s : State} (h : RequestsOk s) : Moved s s.consider := by
  unfold State.consider
  split
  · exact .refl s
  · exact State.grantInTurn_moved 12 h

/-- With a lane's request taken away only the other lanes' requests matter. -/
theorem RequestsOk.withdrawn {i : Fin 12} {s : State}
    (h : ∀ j, j ≠ i → requestOk s.lanes[j] s.pipes[j]) :
    RequestsOk (s.setPipe i { s.pipes[i] with request := false }) := by
  intro j
  by_cases hj : i = j
  · subst hj; exact requestOk_of_none (by simp)
  · rw [State.setPipe_other _ _ _ _ hj]
    exact h j (Ne.symm hj)

/-- A withdrawal asks nothing of the request that it takes away (R144). -/
theorem State.withdrawStroke_moved {i : Fin 12} {s : State}
    (h : ∀ j, j ≠ i → requestOk s.lanes[j] s.pipes[j]) : Moved s (s.withdrawStroke i) := by
  unfold State.withdrawStroke
  split
  · have hset : Moved s (s.setPipe i { s.pipes[i] with request := false }) :=
      .of_setPipe (.withdrawn _) rfl rfl
    exact hset.trans (State.consider_moved (.withdrawn h))
  · exact .refl s

/-- In a lane that does not run a withdrawal takes the request away and moves nothing (R144). -/
theorem State.withdrawStroke_pipe {i : Fin 12} {s : State}
    (h : ∀ j, j ≠ i → requestOk s.lanes[j] s.pipes[j]) (hruns : (s.lanes[i]).state.runs = false) :
    (s.withdrawStroke i).pipes[i] = { s.pipes[i] with request := false } := by
  unfold State.withdrawStroke
  split
  · rcases ((State.consider_moved (.withdrawn h)).pipes i).standing hruns with hstands | hstands
    all_goals rw [hstands, State.setPipe_self]
  · next hrequest => rw [← Bool.eq_false_iff.2 hrequest]

theorem State.startDrop_moved (i : Fin 12) {s : State} (h : RequestsOk s) :
    Moved s (s.startDrop i) := by
  unfold State.startDrop
  dsimp only
  split
  · next hready =>
    simp only [Bool.and_eq_true, Option.isNone_iff_eq_none] at hready
    obtain ⟨⟨hruns, hstaged⟩, hdropping⟩ := hready
    have hrequest : (s.lanes[i]).kind ≠ .loose → Moved s (s.requestStroke i) := fun hkind => by
      have hset : Moved s (s.setPipe i { s.pipes[i] with request := true }) :=
        .of_setPipe (.requested hruns hkind hstaged hdropping) rfl rfl
      exact hset.trans (State.consider_moved (hset.requestsOk h))
    split
    · next hkind =>
      refine State.enterDropping_moved hruns ?_ hdropping
      rw [Bool.eq_false_iff]
      exact fun hr => (h i hr).2.2.2 hkind
    all_goals
      next hkind =>
      split
      · exact .refl s
      · exact hrequest (by rw [hkind]; decide)
  · exact .refl s

theorem State.advance_moved (i : Fin 12) {s : State} (h : RequestsOk s) : Moved s (s.advance i) :=
  (State.stage_moved i s).trans (State.startDrop_moved i ((State.stage_moved i s).requestsOk h))

end Sys2Proof.Machine
end

section
/-! SUPPORT. Fills, lane choice and the orders of all lanes: what reserving, releasing and committing leave
in a lane's record, and what an order that joins a lane leaves (`Joined`). -/

namespace Sys2Proof.Machine

-- One theorem after another: many that wait for the kernel at once take threads and memory.
set_option Elab.async false

/-- Reading a vector of records after one of them was written. -/
theorem get_of_set {α : Type} {n : Nat} {u v : Vector α n} {i : Fin n} {x : α}
    (h : v = u.set i.val x i.isLt) (j : Fin n) : v[j] = if i = j then x else u[j] := by
  subst h
  simp [Vector.getElem_set, Fin.ext_iff]

/-! ## Fills of a lane (R99, R100) -/

/-- A lane record with its nearly-full mark as a test leaves it (R100). -/
def Lane.marked (l : Lane) : Lane := { l with nearlyFull := l.atWarn }

theorem State.testNearlyFull_lanes (i : Fin 12) (s : State) :
    (s.testNearlyFull i).lanes = s.lanes.set i.val (s.lanes[i]).marked i.isLt := by
  unfold State.testNearlyFull
  dsimp only
  split <;> rfl

@[simp] theorem State.testNearlyFull_pipes (i : Fin 12) (s : State) :
    (s.testNearlyFull i).pipes = s.pipes := by
  unfold State.testNearlyFull
  dsimp only
  split <;> rfl

/-- A write of a lane's record whose mark is tested then. -/
theorem State.setLane_tested (i : Fin 12) (l : Lane) (s : State) :
    ((s.setLane i l).testNearlyFull i).lanes = s.lanes.set i.val l.marked i.isLt := by
  rw [State.testNearlyFull_lanes, State.setLane_self, State.setLane_lanes, Vector.set_set]

theorem State.reserve_lanes (i : Fin 12) (f : Nat) (s : State) :
    (s.reserve i f).lanes = s.lanes.set i.val
      { s.lanes[i] with reserved := (s.lanes[i]).reserved + f : Lane }.marked i.isLt :=
  State.setLane_tested i _ s

theorem State.release_lanes (i : Fin 12) (f : Nat) (s : State) :
    (s.release i f).lanes = s.lanes.set i.val
      { s.lanes[i] with reserved := (s.lanes[i]).reserved - f : Lane }.marked i.isLt :=
  State.setLane_tested i _ s

theorem State.commit_lanes (i : Fin 12) (f : Nat) (s : State) :
    (s.commit i f).lanes = s.lanes.set i.val
      { s.lanes[i] with
        reserved := (s.lanes[i]).reserved - f, committed := (s.lanes[i]).committed + f,
        itemsSince := riseCount (s.lanes[i]).itemsSince 1 : Lane }.marked i.isLt :=
  State.setLane_tested i _ s

@[simp] theorem State.reserve_pipes (i : Fin 12) (f : Nat) (s : State) :
    (s.reserve i f).pipes = s.pipes := State.testNearlyFull_pipes i _

@[simp] theorem State.release_pipes (i : Fin 12) (f : Nat) (s : State) :
    (s.release i f).pipes = s.pipes := State.testNearlyFull_pipes i _

@[simp] theorem State.commit_pipes (i : Fin 12) (f : Nat) (s : State) :
    (s.commit i f).pipes = s.pipes := State.testNearlyFull_pipes i _

@[simp] theorem State.testOverflowHigh_lanes (s : State) : s.testOverflowHigh.lanes = s.lanes := by
  unfold State.testOverflowHigh; split <;> rfl

@[simp] theorem State.testOverflowHigh_pipes (s : State) : s.testOverflowHigh.pipes = s.pipes := by
  unfold State.testOverflowHigh; split <;> rfl

@[simp] theorem State.overflowOrder_lanes (o : Order) (s : State) :
    (s.overflowOrder o).lanes = s.lanes := State.testOverflowHigh_lanes _

@[simp] theorem State.overflowOrder_pipes (o : Order) (s : State) :
    (s.overflowOrder o).pipes = s.pipes := State.testOverflowHigh_pipes _

theorem State.toOverflow_lanes (i : Fin 12) (o : Order) (s : State) :
    (s.toOverflow i o).lanes = s.lanes.set i.val
      { s.lanes[i] with reserved := (s.lanes[i]).reserved - o.fill : Lane }.marked i.isLt := by
  rw [State.toOverflow, State.overflowOrder_lanes, State.release_lanes]

@[simp] theorem State.toOverflow_pipes (i : Fin 12) (o : Order) (s : State) :
    (s.toOverflow i o).pipes = s.pipes := by
  rw [State.toOverflow, State.overflowOrder_pipes, State.release_pipes]

/-! ## Lane choice (R101) -/

theorem State.isCandidate_iff {s : State} {route : RouteClass} {fill : Lane → Nat}
    {out : Option (Fin 12)} {i : Fin 12} : s.isCandidate route fill out i = true ↔
      (s.lanes[i]).route = route ∧ (s.lanes[i]).state = .opened ∧ (s.lanes[i]).mask = false ∧
      out ≠ some i ∧ (s.pipes[i]).queue.length < Config.maxQueue ∧
      (s.lanes[i]).committed + (s.lanes[i]).reserved + fill s.lanes[i] ≤ (s.lanes[i]).capacity := by
  simp only [State.isCandidate, Bool.and_eq_true, beq_iff_eq, bne_iff_ne, Bool.not_eq_true',
    decide_eq_true_eq, and_assoc]

theorem State.roomiest_mem {s : State} {is : List (Fin 12)} {i : Fin 12}
    (h : s.roomiest is = some i) : i ∈ is := by
  induction is generalizing i with
  | nil => cases h
  | cons k ks ih =>
    unfold State.roomiest at h
    split at h
    · cases h; exact List.mem_cons_self
    · next j hj =>
      split at h
      · cases h; exact List.mem_cons_of_mem _ (ih hj)
      · cases h; exact List.mem_cons_self

/-- The lane that lane choice takes is a candidate. -/
theorem State.chooseLane_candidate {s : State} {route : RouteClass} {fill : Lane → Nat}
    {out : Option (Fin 12)} {i : Fin 12} (h : s.chooseLane route fill out = some i) :
    s.isCandidate route fill out i = true := by
  have hmem := State.roomiest_mem h
  split at hmem
  · exact (List.mem_filter.1 hmem).2
  · exact (List.mem_filter.1 (List.mem_filter.1 hmem).1).2

/-! ## An order that joins a lane (R99, R121) -/

theorem Moves.of_lane {l m : Lane} {p q : Pipeline} (h : Moves l p q) (hstate : m.state = l.state)
    (hkind : m.kind = l.kind) : Moves m p q := by
  induction h with
  | refl => exact .refl _
  | trans _ _ h k => exact h.trans k
  | staged hruns hstaged hqueue => exact .staged (hstate ▸ hruns) hstaged hqueue
  | dropped go hruns hrequest hstaged hdropping =>
    exact .dropped go (hstate ▸ hruns) hrequest hstaged hdropping
  | requested hruns hk hstaged hdropping =>
    exact .requested (hstate ▸ hruns) (hkind ▸ hk) hstaged hdropping
  | withdrawn => exact .withdrawn _

/-- An order has joined lane `i` at the tail of its queue, with its fill reserved there, and the orders have
moved inside their lanes then. -/
structure Joined (i : Fin 12) (o : Order) (s t : State) : Prop where
  lanes : t.lanes = s.lanes.set i.val
    { s.lanes[i] with reserved := (s.lanes[i]).reserved + o.fill : Lane }.marked i.isLt
  here : Moves s.lanes[i] { s.pipes[i] with queue := (s.pipes[i]).queue ++ [o] } t.pipes[i]
  others : ∀ j : Fin 12, j ≠ i → Moves s.lanes[j] s.pipes[j] t.pipes[j]

/-- Reserving the fill and appending the order is joining; the back room may not change in between. -/
theorem State.appendOrder_joined {i : Fin 12} {o : Order} {s u : State} (h : RequestsOk s)
    (hlanes : u.lanes = (s.reserve i o.fill).lanes) (hpipes : u.pipes = s.pipes) :
    Joined i o s (u.appendOrder i o) := by
  have hkept : ∀ j : Fin 12, (u.lanes[j]).state = (s.lanes[j]).state ∧
      (u.lanes[j]).kind = (s.lanes[j]).kind := by
    intro j
    rw [get_of_set (hlanes.trans (State.reserve_lanes i o.fill s)) j]
    split
    · next hij => subst hij; exact ⟨rfl, rfl⟩
    · exact ⟨rfl, rfl⟩
  have hrequests : RequestsOk
      (u.setPipe i { u.pipes[i] with queue := (u.pipes[i]).queue ++ [o] }) := by
    intro j
    have hj := h j
    rw [State.setPipe_get, State.setPipe_lanes]
    unfold requestOk at hj ⊢
    rw [(hkept j).1, (hkept j).2, hpipes]
    split
    · next hij => subst hij; exact hj
    · exact hj
  have hmoved : Moved (u.setPipe i { u.pipes[i] with queue := (u.pipes[i]).queue ++ [o] })
      (u.appendOrder i o) := State.advance_moved i hrequests
  refine ⟨?_, ?_, fun j hj => ?_⟩
  · rw [State.appendOrder_lanes, hlanes, State.reserve_lanes]
  · have hi := (hmoved.pipes i).of_lane (hkept i).1.symm (hkept i).2.symm
    rwa [State.setPipe_self, hpipes] at hi
  · have hj' := (hmoved.pipes j).of_lane (hkept j).1.symm (hkept j).2.symm
    rwa [State.setPipe_other _ _ _ _ (Ne.symm hj), hpipes] at hj'

/-! ## The orders of all lanes -/

/-- The orders that stand in the positions of all lanes. -/
def State.allOrders (s : State) : List Order := allLanes.flatMap fun i => (s.pipes[i]).orders

theorem State.handles_eq (s : State) : s.handles = s.allOrders.map Order.handle := by
  simp only [State.handles, State.allOrders, List.map_flatMap]

theorem mem_allLanes (i : Fin 12) : i ∈ allLanes := by revert i; decide

theorem allLanes_nodup : allLanes.Nodup := by decide

/-- Lists that lose elements place by place lose elements together. -/
theorem flatMap_subperm {α β : Type} {f g : α → List β} (h : ∀ i, (f i).Subperm (g i)) (is : List α) :
    (is.flatMap f).Subperm (is.flatMap g) := by
  induction is with
  | nil => exact .refl _
  | cons i is ih => exact (h i).append ih

/-- Of lists that are the same but at one place, where an element joins. -/
theorem flatMap_cons_perm {α β : Type} {f g : α → List β} {i : α} {x : β} {is : List α}
    (hi : i ∈ is) (hnodup : is.Nodup) (hhere : (f i).Perm (x :: g i))
    (hothers : ∀ j, j ≠ i → f j = g j) : (is.flatMap f).Perm (x :: is.flatMap g) := by
  induction is with
  | nil => cases hi
  | cons k ks ih =>
    obtain ⟨hk, hks⟩ := List.nodup_cons.1 hnodup
    rw [List.flatMap_cons, List.flatMap_cons]
    by_cases hki : k = i
    · subst hki
      have hrest : ks.flatMap f = ks.flatMap g :=
        List.flatMap_congr fun j hj => hothers j fun hjk => hk (hjk ▸ hj)
      rw [hrest]
      exact hhere.append_right _
    · have hmem : i ∈ ks := (List.mem_cons.1 hi).resolve_left (Ne.symm hki)
      rw [hothers k hki]
      exact ((ih hmem hks).append_left (g k)).trans List.perm_middle

/-- The orders of all lanes, where an order joins those of one lane. -/
theorem allOrders_cons_perm {i : Fin 12} {o : Order} {s t : State}
    (hhere : (t.pipes[i]).orders.Perm (o :: (s.pipes[i]).orders))
    (hothers : ∀ j : Fin 12, j ≠ i → (t.pipes[j]).orders = (s.pipes[j]).orders) :
    t.allOrders.Perm (o :: s.allOrders) :=
  flatMap_cons_perm (mem_allLanes i) allLanes_nodup hhere hothers

theorem Moved.allOrders {s t : State} (h : Moved s t) : t.allOrders = s.allOrders := by
  unfold State.allOrders
  exact List.flatMap_congr fun j _ => (h.pipes j).orders

/-- The orders of the lane that an order joined. -/
theorem Joined.orders {i : Fin 12} {o : Order} {s t : State} (h : Joined i o s t) :
    (t.pipes[i]).orders = (s.pipes[i]).orders ++ [o] := by
  rw [h.here.orders]
  simp [Pipeline.orders]

theorem Joined.allOrders {i : Fin 12} {o : Order} {s t : State} (h : Joined i o s t) :
    t.allOrders.Perm (o :: s.allOrders) :=
  allOrders_cons_perm (h.orders ▸ List.perm_append_singleton _ _) fun j hj => (h.others j hj).orders

/-- The queue of a lane that had room takes the order (R119). -/
theorem Joined.queuesOk {i : Fin 12} {o : Order} {s t : State} (h : Joined i o s t)
    (hroom : (s.pipes[i]).queue.length < Config.maxQueue) (hs : QueuesOk s) : QueuesOk t := by
  intro j
  by_cases hj : j = i
  · subst hj
    refine h.here.queue_length.trans ?_
    simpa using hroom
  · exact (h.others j hj).queue_length.trans (hs j)

end Sys2Proof.Machine
end

section
/-! SUPPORT. What the operations of the back room keep of its laws (R99, R103, R111, R119, R120, R123): the
law of a lane with its pipeline, the law of states, bins and classes, and the orders of all lanes together. -/

namespace Sys2Proof.Machine

-- One theorem after another: many that wait for the kernel at once take threads and memory.
set_option Elab.async false

/-! ## The law of a lane -/

/-- The state of a lane that is out: FAULT or SWAP (R111). -/
def LaneState.IsOut (st : LaneState) : Prop := st = .fault ∨ ∃ b r, st = .swap b r

theorem LaneState.IsOut.runs {st : LaneState} (h : st.IsOut) : st.runs = false := by
  rcases h with rfl | ⟨b, r, rfl⟩ <;> rfl

/-- The fills of a lane: within its capacity, and reserved for the orders held (R99, R101). -/
def Filled (l : Lane) (p : Pipeline) : Prop :=
  l.committed + l.reserved ≤ l.capacity ∧ l.reserved = (p.orders.map Order.fill).sum

theorem laneOk_iff (l : Lane) (p : Pipeline) : laneOk l p ↔ Filled l p ∧
    (l.state = .closed → p.isEmpty = true) ∧ (l.state.IsOut → p.queue = [] ∧ p.staged = none) ∧
    requestOk l p := by
  simp only [laneOk, Filled, LaneState.IsOut, requestOk, and_assoc]

theorem Pipeline.isEmpty_iff (p : Pipeline) : p.isEmpty = true ↔ p.orders = [] := by
  simp only [Pipeline.isEmpty, Pipeline.orders, Bool.and_eq_true, List.isEmpty_iff,
    Option.isNone_iff_eq_none, List.append_eq_nil_iff, Option.toList_eq_nil_iff, Option.map_eq_none_iff]
  tauto

theorem laneOk.requestOk {l : Lane} {p : Pipeline} (h : laneOk l p) : requestOk l p :=
  ((laneOk_iff l p).1 h).2.2.2

theorem laneOk.filled {l : Lane} {p : Pipeline} (h : laneOk l p) : Filled l p := ((laneOk_iff l p).1 h).1

theorem LanesOk.requestsOk {s : State} (h : LanesOk s) : RequestsOk s := fun j => (h j).requestOk

/-- No request waits in an empty pipeline. -/
theorem requestOk.of_empty {l : Lane} {p : Pipeline} (h : requestOk l p) (hempty : p.isEmpty = true) :
    p.request = false := by
  rw [Bool.eq_false_iff]
  intro hrequest
  have hstaged := (h hrequest).1
  simp only [Pipeline.isEmpty, Bool.and_eq_true, Option.isNone_iff_eq_none] at hempty
  simp [hempty.1.2] at hstaged

theorem Filled.moves {l : Lane} {p q : Pipeline} (h : Filled l p) (hm : Moves l p q) : Filled l q := by
  unfold Filled at *
  rwa [hm.orders]

/-- Moves keep the law of the lane. -/
theorem laneOk.moves {l : Lane} {p q : Pipeline} (h : laneOk l p) (hm : Moves l p q) : laneOk l q := by
  obtain ⟨hfilled, hclosed, hout, hrequest⟩ := (laneOk_iff l p).1 h
  refine (laneOk_iff l q).2 ⟨hfilled.moves hm, fun hstate => ?_, fun hstate => ?_, hm.requestOk hrequest⟩
  · rw [Pipeline.isEmpty_iff, hm.orders, ← Pipeline.isEmpty_iff]
    exact hclosed hstate
  · rcases hm.standing hstate.runs with rfl | rfl
    · exact hout hstate
    · exact hout hstate

theorem Moved.lanesOk {s t : State} (h : Moved s t) (hs : LanesOk s) : LanesOk t :=
  fun j => h.only.lanes ▸ (hs j).moves (h.pipes j)

/-- An order joins a lane in OPEN that has room for its fill. -/
theorem Joined.lanesOk_here {i : Fin 12} {o : Order} {s t : State} (h : Joined i o s t)
    (hs : laneOk s.lanes[i] s.pipes[i]) (hopened : (s.lanes[i]).state = .opened)
    (hroom : (s.lanes[i]).committed + (s.lanes[i]).reserved + o.fill ≤ (s.lanes[i]).capacity) :
    laneOk t.lanes[i] t.pipes[i] := by
  obtain ⟨⟨-, hsum⟩, -, -, hrequest⟩ := (laneOk_iff _ _).1 hs
  rw [get_of_set h.lanes i, if_pos rfl]
  refine laneOk.moves ?_ (h.here.of_lane rfl rfl)
  refine (laneOk_iff _ _).2 ⟨⟨?_, ?_⟩, fun hclosed => ?_, fun hout => ?_, hrequest⟩
  · simp only [Lane.marked]; omega
  · simp only [Lane.marked, hsum, Pipeline.orders, List.map_append, List.sum_append, List.map_cons,
      List.map_nil, List.sum_cons, List.sum_nil]
    omega
  · exact absurd (hopened.symm.trans hclosed) (by simp)
  · have hruns := hout.runs
    rw [show ({ s.lanes[i] with reserved := _ } : Lane).marked.state = (s.lanes[i]).state from rfl,
      hopened] at hruns
    cases hruns

theorem Joined.lane_other {i j : Fin 12} {o : Order} {s t : State} (h : Joined i o s t) (hj : j ≠ i) :
    t.lanes[j] = s.lanes[j] := by
  rw [get_of_set h.lanes j, if_neg (Ne.symm hj)]

theorem Joined.lanesOk_other {i j : Fin 12} {o : Order} {s t : State} (h : Joined i o s t)
    (hj : j ≠ i) (hs : laneOk s.lanes[j] s.pipes[j]) : laneOk t.lanes[j] t.pipes[j] := by
  rw [h.lane_other hj]
  exact hs.moves (h.others j hj)

/-! ## What works in the back room keeps -/

/-- The orders of `t` are orders of `s`, and no queue has grown too long. -/
structure NoneNew (s t : State) : Prop where
  orders : t.allOrders.Subperm s.allOrders
  queues : QueuesOk s → QueuesOk t

theorem NoneNew.trans {s t u : State} (h : NoneNew s t) (k : NoneNew t u) : NoneNew s u :=
  ⟨k.orders.trans h.orders, fun hs => k.queues (h.queues hs)⟩

theorem Moved.noneNew {s t : State} (h : Moved s t) : NoneNew s t :=
  ⟨h.allOrders ▸ .refl _, fun hs j => (h.pipes j).queue_length.trans (hs j)⟩

/-- The pipelines change one by one, each losing orders at most. -/
theorem NoneNew.of_pipes {s t : State}
    (h : ∀ j : Fin 12, (t.pipes[j]).orders.Subperm (s.pipes[j]).orders ∧
      (t.pipes[j]).queue.length ≤ (s.pipes[j]).queue.length) : NoneNew s t :=
  ⟨flatMap_subperm (fun j => (h j).1) _, fun hs j => (h j).2.trans (hs j)⟩

theorem NoneNew.of_same {s t : State} (h : t.pipes = s.pipes) : NoneNew s t :=
  .of_pipes fun j => by rw [h]; exact ⟨.refl _, Nat.le_refl _⟩

theorem NoneNew.handlesOk {s t : State} (h : NoneNew s t) (hs : HandlesOk s) : HandlesOk t := by
  have hsub : t.handles.Subperm s.handles := by
    rw [State.handles_eq, State.handles_eq]
    obtain ⟨l, hperm, hsub⟩ := h.orders
    exact ⟨l.map Order.handle, hperm.map _, hsub.map _⟩
  obtain ⟨l, hperm, hsublist⟩ := hsub
  exact ⟨hperm.nodup_iff.1 (hsublist.nodup hs.1),
    fun x hx => hs.2 x (hsublist.subset (hperm.mem_iff.2 hx))⟩

/-- The state of a lane, its bin and its thermal class. -/
def Lane.stance (l : Lane) : LaneState × Bool × Thermal := (l.state, l.binPresent, l.thermal)

theorem binOk_of_stance {l m : Lane} (h : m.stance = l.stance) (hl : binOk l) : binOk m := by
  simp only [Lane.stance, Prod.mk.injEq] at h
  obtain ⟨hstate, hbin, hclass⟩ := h
  unfold binOk
  rwa [hstate, hbin, hclass]

/-- Every lane stands as before. -/
def SameStance (s t : State) : Prop := ∀ j : Fin 12, (t.lanes[j]).stance = (s.lanes[j]).stance

theorem SameStance.trans {s t u : State} (h : SameStance s t) (k : SameStance t u) : SameStance s u :=
  fun j => (k j).trans (h j)

theorem SameStance.of_same {s t : State} (h : t.lanes = s.lanes) : SameStance s t :=
  fun j => by rw [h]

theorem SameStance.of_set {i : Fin 12} {l : Lane} {s t : State}
    (h : t.lanes = s.lanes.set i.val l i.isLt) (hl : l.stance = (s.lanes[i]).stance) :
    SameStance s t := by
  intro j
  rw [get_of_set h j]
  split
  · next hij => subst hij; exact hl
  · rfl

theorem SameStance.binsOk {s t : State} (h : SameStance s t) (hs : BinsOk s) : BinsOk t :=
  fun j => binOk_of_stance (h j) (hs j)

/-- What an event of the back room keeps: the laws of fills and positions, of states, bins and classes, of
queues and of handles. -/
structure Works (s t : State) : Prop where
  lanes : LanesOk s → LanesOk t
  bins : BinsOk s → BinsOk t
  queues : LanesOk s → QueuesOk s → QueuesOk t
  handles : LanesOk s → QueuesOk s → HandlesOk s → HandlesOk t

theorem Works.refl (s : State) : Works s s := ⟨id, id, fun _ => id, fun _ _ => id⟩

theorem Works.trans {s t u : State} (h : Works s t) (k : Works t u) : Works s u :=
  ⟨fun hs => k.lanes (h.lanes hs), fun hs => k.bins (h.bins hs),
    fun hl hq => k.queues (h.lanes hl) (h.queues hl hq),
    fun hl hq hh => k.handles (h.lanes hl) (h.queues hl hq) (h.handles hl hq hh)⟩

theorem Works.of_noneNew {s t : State} (hlanes : LanesOk s → LanesOk t) (hbins : BinsOk s → BinsOk t)
    (h : LanesOk s → NoneNew s t) : Works s t :=
  ⟨hlanes, hbins, fun hl => (h hl).queues, fun hl _ => (h hl).handlesOk⟩

/-- The lanes and their pipelines are the same. -/
theorem Works.elsewhere {s t : State} (hlanes : t.lanes = s.lanes := by rfl)
    (hpipes : t.pipes = s.pipes := by rfl) : Works s t :=
  .of_noneNew (fun hs j => by rw [hlanes, hpipes]; exact hs j) (SameStance.of_same hlanes).binsOk
    fun _ => .of_same hpipes

theorem SessionOnly.works {s t : State} (h : SessionOnly s t) : Works s t :=
  .elsewhere (by rw [h]) (by rw [h])

theorem State.reply_works (tag : Byte) (code : Nat) (r : ReplyCode) (results : List Byte) (s : State) :
    Works s (s.reply tag code r results) := .elsewhere (by simp) (by simp)

theorem State.refuse_works (tag : Byte) (code : Nat) (r : ReplyCode) (s : State) :
    Works s (s.refuse tag code r) := State.reply_works tag code r [] s

theorem Works.reply {s t : State} (h : Works s t) (tag : Byte) (code : Nat) (r : ReplyCode)
    (results : List Byte) : Works s (t.reply tag code r results) :=
  h.trans (State.reply_works tag code r results t)

/-- Moves of orders that the law of the lanes allows. -/
theorem Works.of_moved {s t : State} (hlanes : t.lanes = s.lanes) (h : RequestsOk s → Moved s t) :
    Works s t :=
  .of_noneNew (fun hs => (h hs.requestsOk).lanesOk hs) (SameStance.of_same hlanes).binsOk
    fun hs => (h hs.requestsOk).noneNew

theorem State.consider_works (s : State) : Works s s.consider :=
  .of_moved (State.consider_lanes s) State.consider_moved

theorem State.advance_works (i : Fin 12) (s : State) : Works s (s.advance i) :=
  .of_moved (State.advance_lanes i s) (State.advance_moved i)

/-- One lane's record and pipeline change, in a way that the two laws of a lane allow, and no order is
new. -/
theorem Works.of_both {i : Fin 12} {l : Lane} {p : Pipeline} {s t : State}
    (hlanes : t.lanes = s.lanes.set i.val l i.isLt) (hpipes : t.pipes = s.pipes.set i.val p i.isLt)
    (horders : p.orders.Subperm (s.pipes[i]).orders)
    (hqueue : p.queue.length ≤ (s.pipes[i]).queue.length)
    (hlane : laneOk s.lanes[i] s.pipes[i] → laneOk l p) (hbin : binOk s.lanes[i] → binOk l) :
    Works s t := by
  refine .of_noneNew (fun hs j => ?_) (fun hs j => ?_) fun _ => .of_pipes fun j => ?_
  · have hj := hs j
    rw [get_of_set hlanes j, get_of_set hpipes j]
    split
    · next hij => subst hij; exact hlane hj
    · exact hj
  · have hj := hs j
    rw [get_of_set hlanes j]
    split
    · next hij => subst hij; exact hbin hj
    · exact hj
  · rw [get_of_set hpipes j]
    split
    · next hij => subst hij; exact ⟨horders, hqueue⟩
    · exact ⟨.refl _, Nat.le_refl _⟩

/-- A record that is written as it stands. -/
theorem set_same {α : Type} {n : Nat} {u v : Vector α n} (h : v = u) (i : Fin n) :
    v = u.set i.val u[i] i.isLt := by
  subst h; exact Vector.ext fun k hk => by simp

/-- One lane's record changes, in a way that the two laws of a lane allow. -/
theorem Works.of_lane {i : Fin 12} {l : Lane} {s t : State}
    (hlanes : t.lanes = s.lanes.set i.val l i.isLt) (hpipes : t.pipes = s.pipes)
    (hlane : laneOk s.lanes[i] s.pipes[i] → laneOk l s.pipes[i]) (hbin : binOk s.lanes[i] → binOk l) :
    Works s t :=
  .of_both hlanes (set_same hpipes i) (.refl _) (Nat.le_refl _) hlane hbin

/-- Marks, flags and counts of a lane that its laws do not speak of. -/
theorem Works.of_note {i : Fin 12} {l : Lane} {s t : State}
    (hlanes : t.lanes = s.lanes.set i.val l i.isLt) (hpipes : t.pipes = s.pipes)
    (hl : l = { s.lanes[i] with mask := l.mask, nearlyFull := l.nearlyFull,
                                fillAtRemoval := l.fillAtRemoval, itemsSince := l.itemsSince,
                                changed := l.changed }) : Works s t := by
  refine .of_lane hlanes hpipes (fun h => ?_) fun h => ?_
  · rw [hl]; exact h
  · rw [hl]; exact h

/-- One pipeline changes, in a way that the law of its lane allows, and no order is new. -/
theorem Works.of_pipe {i : Fin 12} {p : Pipeline} {s t : State} (hlanes : t.lanes = s.lanes)
    (hpipes : t.pipes = s.pipes.set i.val p i.isLt)
    (horders : p.orders.Subperm (s.pipes[i]).orders)
    (hqueue : p.queue.length ≤ (s.pipes[i]).queue.length)
    (hlane : laneOk s.lanes[i] s.pipes[i] → laneOk s.lanes[i] p) : Works s t :=
  .of_both (set_same hlanes i) hpipes horders hqueue hlane id

end Sys2Proof.Machine
end

section
/-! SUPPORT. The ends of drops and the changes of a lane's state work in the back room (`Works`): entry into
SWAP and FAULT with its rerouting, changes of state, results, lane reports and acceptances. -/

namespace Sys2Proof.Machine

-- One theorem after another: many that wait for the kernel at once take threads and memory.
set_option Elab.async false

/-! ## Rerouting (R111, R112) -/

theorem State.reserve_stance (i : Fin 12) (f : Nat) (s : State) : SameStance s (s.reserve i f) :=
  .of_set (State.reserve_lanes i f s) rfl

theorem State.release_stance (i : Fin 12) (f : Nat) (s : State) : SameStance s (s.release i f) :=
  .of_set (State.release_lanes i f s) rfl

theorem State.toOverflow_stance (i : Fin 12) (o : Order) (s : State) :
    SameStance s (s.toOverflow i o) := .of_set (State.toOverflow_lanes i o s) rfl

theorem State.reroute_stance (i : Fin 12) (o : Order) (s : State) : SameStance s (s.reroute i o) := by
  unfold State.reroute
  dsimp only
  refine (State.release_stance i o.fill s).trans ?_
  split
  · exact (State.reserve_stance _ _ _).trans (.of_same (State.appendOrder_lanes _ _ _))
  · exact .of_same (State.overflowOrder_lanes _ _)

theorem State.rerouteAll_stance (i : Fin 12) (os : List Order) (s : State) :
    SameStance s (s.rerouteAll i os) := by
  induction os generalizing s with
  | nil => exact .of_same rfl
  | cons o os ih =>
    unfold State.rerouteAll
    exact SameStance.trans (t := s.setPipe i { s.pipes[i] with queue := os }) (.of_same rfl)
      ((State.reroute_stance i o _).trans (ih _))

/-- Lane `i` is on its way out with the orders `os` still in its queue: the other lanes keep their law, and
so do its fills; nothing is staged in it and no request waits. -/
structure Leaving (i : Fin 12) (os : List Order) (s : State) : Prop where
  others : ∀ j, j ≠ i → laneOk s.lanes[j] s.pipes[j]
  filled : Filled s.lanes[i] s.pipes[i]
  runs : (s.lanes[i]).state.runs = false
  queue : (s.pipes[i]).queue = os
  staged : (s.pipes[i]).staged = none
  request : (s.pipes[i]).request = false

theorem Leaving.requestsOk {i : Fin 12} {os : List Order} {s : State} (h : Leaving i os s) :
    RequestsOk s := fun j => by
  by_cases hj : j = i
  · subst hj; exact requestOk_of_none h.request
  · exact (h.others j hj).requestOk

/-- The order at the head of the queue of a leaving lane has left it, and its fill is released. -/
theorem Leaving.released {i : Fin 12} {o : Order} {rest : List Order} {s : State}
    (h : Leaving i (o :: rest) s) :
    Leaving i rest ((s.setPipe i { s.pipes[i] with queue := rest }).release i o.fill) := by
  obtain ⟨hothers, ⟨hroom, hsum⟩, hruns, hqueue, hstaged, hrequest⟩ := h
  have hlanes := State.release_lanes i o.fill (s.setPipe i { s.pipes[i] with queue := rest })
  have hpipe : ((s.setPipe i { s.pipes[i] with queue := rest }).release i o.fill).pipes[i] =
      { s.pipes[i] with queue := rest } := by
    rw [State.release_pipes, State.setPipe_self]
  have hsum' : (s.lanes[i]).reserved =
      ({ s.pipes[i] with queue := rest : Pipeline }.orders.map Order.fill).sum + o.fill := by
    rw [hsum]
    simp only [Pipeline.orders, hstaged, hqueue, List.map_append, List.sum_append, List.map_cons,
      List.sum_cons]
    omega
  refine ⟨fun j hj => ?_, ?_, ?_, ?_, ?_, ?_⟩
  · rw [get_of_set hlanes j, if_neg (Ne.symm hj), State.release_pipes,
      State.setPipe_other _ _ _ _ (Ne.symm hj)]
    exact hothers j hj
  · rw [hpipe, get_of_set hlanes i, if_pos rfl]
    refine ⟨?_, ?_⟩
    · simp only [Lane.marked, State.setPipe_lanes]; omega
    · simp only [Lane.marked, State.setPipe_lanes, hsum']; omega
  · rw [get_of_set hlanes i, if_pos rfl]; exact hruns
  all_goals rw [hpipe]
  · exact hstaged
  · exact hrequest

/-- An order joins another lane while lane `i` is on its way out. -/
theorem Leaving.joined {i j : Fin 12} {o : Order} {os : List Order} {s t : State}
    (h : Leaving i os s) (hj : j ≠ i) (ht : Joined j o s t) (hopened : (s.lanes[j]).state = .opened)
    (hroom : (s.lanes[j]).committed + (s.lanes[j]).reserved + o.fill ≤ (s.lanes[j]).capacity) :
    Leaving i os t := by
  have hlane : t.lanes[i] = s.lanes[i] := ht.lane_other (Ne.symm hj)
  have hpipe : t.pipes[i] = s.pipes[i] := by
    rcases (ht.others i (Ne.symm hj)).standing h.runs with hsame | hsame
    · exact hsame
    · rw [hsame, ← h.request]
  refine ⟨fun k hk => ?_, by rw [hlane, hpipe]; exact h.filled, by rw [hlane]; exact h.runs,
    by rw [hpipe]; exact h.queue, by rw [hpipe]; exact h.staged, by rw [hpipe]; exact h.request⟩
  by_cases hkj : k = j
  · subst hkj; exact ht.lanesOk_here (h.others k hk) hopened hroom
  · exact ht.lanesOk_other hkj (h.others k hk)

theorem Leaving.of_same {i : Fin 12} {os : List Order} {s t : State} (h : Leaving i os s)
    (hlanes : t.lanes = s.lanes) (hpipes : t.pipes = s.pipes) : Leaving i os t := by
  obtain ⟨hothers, hfilled, hruns, hqueue, hstaged, hrequest⟩ := h
  exact ⟨by rwa [hlanes, hpipes], by rwa [hlanes, hpipes], by rwa [hlanes], by rwa [hpipes],
    by rwa [hpipes], by rwa [hpipes]⟩

/-- One order is rerouted, or goes to overflow (R112). -/
theorem Leaving.reroute {i : Fin 12} {o : Order} {rest : List Order} {s : State}
    (h : Leaving i (o :: rest) s) :
    Leaving i rest ((s.setPipe i { s.pipes[i] with queue := rest }).reroute i o) ∧
    NoneNew s ((s.setPipe i { s.pipes[i] with queue := rest }).reroute i o) := by
  have hleft := h.released
  have hperm : s.allOrders.Perm
      (o :: ((s.setPipe i { s.pipes[i] with queue := rest }).release i o.fill).allOrders) := by
    refine allOrders_cons_perm (i := i) ?_ fun j hj => ?_
    · rw [State.release_pipes, State.setPipe_self]
      simp only [Pipeline.orders, h.queue]
      exact List.perm_middle
    · rw [State.release_pipes, State.setPipe_other _ _ _ _ (Ne.symm hj)]
  have hlost : NoneNew s ((s.setPipe i { s.pipes[i] with queue := rest }).release i o.fill) := by
    refine ⟨(List.subperm_cons_self).trans hperm.symm.subperm, fun hs j => ?_⟩
    rw [State.release_pipes, State.setPipe_get]
    split
    · refine Nat.le_trans ?_ (hs i)
      rw [h.queue]
      exact Nat.le_succ _
    · exact hs j
  unfold State.reroute
  dsimp only
  split
  · next j hj =>
    obtain ⟨-, hopened, -, hother, hqueue, hroom⟩ :=
      State.isCandidate_iff.1 (State.chooseLane_candidate hj)
    have hne : j ≠ i := fun hji => hother (by rw [hji])
    have hjoined := State.appendOrder_joined (i := j) (o := o) hleft.requestsOk rfl
      (State.reserve_pipes j o.fill _)
    refine ⟨hleft.joined hne hjoined hopened hroom, ?_, fun hs => ?_⟩
    · exact (hjoined.allOrders.trans hperm.symm).subperm
    · exact hjoined.queuesOk hqueue (hlost.queues hs)
  · exact ⟨hleft.of_same (State.overflowOrder_lanes _ _) (State.overflowOrder_pipes _ _),
      hlost.trans (.of_same (State.overflowOrder_pipes _ _))⟩

theorem Leaving.rerouteAll {i : Fin 12} {os : List Order} {s : State} (h : Leaving i os s) :
    Leaving i [] (s.rerouteAll i os) ∧ NoneNew s (s.rerouteAll i os) := by
  induction os generalizing s with
  | nil => exact ⟨h, .of_same rfl⟩
  | cons o rest ih =>
    unfold State.rerouteAll
    obtain ⟨hleaving, hnone⟩ := h.reroute
    obtain ⟨hend, hnones⟩ := ih hleaving
    exact ⟨hend, hnone.trans hnones⟩

/-! ## Entry into SWAP and FAULT -/

theorem State.storeLaneState_lanes (i : Fin 12) (st : LaneState) (s : State) :
    (s.storeLaneState i st).lanes =
      s.lanes.set i.val { s.lanes[i] with state := st, changed := true } i.isLt := rfl

/-- The other lanes of a state keep their law, and lane `i` the law of its fills. -/
structure LanesOkBut (i : Fin 12) (s : State) : Prop where
  others : ∀ j, j ≠ i → laneOk s.lanes[j] s.pipes[j]
  filled : Filled s.lanes[i] s.pipes[i]

theorem LanesOk.but {s : State} (h : LanesOk s) (i : Fin 12) : LanesOkBut i s :=
  ⟨fun j _ => h j, (h i).filled⟩

/-- A new state has been stored for a lane that does not run in it, and its waiting request is withdrawn:
the other lanes keep their law, and the orders of the lane stay. -/
theorem LanesOkBut.stops {i : Fin 12} {st : LaneState} {s u : State} (h : LanesOkBut i s)
    (hst : st.runs = false)
    (hlanes : u.lanes = s.lanes.set i.val { s.lanes[i] with state := st, changed := true } i.isLt)
    (hpipes : u.pipes = s.pipes) :
    LanesOkBut i (u.withdrawStroke i) ∧
    (u.withdrawStroke i).pipes[i] = { s.pipes[i] with request := false } ∧
    NoneNew s (u.withdrawStroke i) := by
  have hothers : ∀ j, j ≠ i → u.lanes[j] = s.lanes[j] := fun j hj => by
    rw [get_of_set hlanes j, if_neg (Ne.symm hj)]
  have hruns : (u.lanes[i]).state.runs = false := by
    rw [get_of_set hlanes i, if_pos rfl]; exact hst
  have hrequests : ∀ j, j ≠ i → requestOk u.lanes[j] u.pipes[j] := fun j hj => by
    rw [hothers j hj, hpipes]; exact (h.others j hj).requestOk
  have hmoved := State.withdrawStroke_moved hrequests
  have hpipe : (u.withdrawStroke i).pipes[i] = { s.pipes[i] with request := false } := by
    rw [State.withdrawStroke_pipe hrequests hruns, hpipes]
  refine ⟨⟨fun j hj => ?_, ?_⟩, hpipe, (NoneNew.of_same hpipes).trans hmoved.noneNew⟩
  · have hj' := hmoved.pipes j
    rw [hothers j hj, hpipes] at hj'
    rw [State.withdrawStroke_lanes, hothers j hj]
    exact (h.others j hj).moves hj'
  · rw [State.withdrawStroke_lanes, get_of_set hlanes i, if_pos rfl, hpipe]
    exact h.filled

/-- The staged order of a lane that does not run goes to overflow, and the lane is on its way out (R111). -/
theorem LanesOkBut.overflowStaged {i : Fin 12} {s : State} (h : LanesOkBut i s)
    (hruns : (s.lanes[i]).state.runs = false) (hrequest : (s.pipes[i]).request = false) :
    Leaving i ((s.overflowStaged i).pipes[i]).queue (s.overflowStaged i) ∧
    NoneNew s (s.overflowStaged i) := by
  obtain ⟨hothers, hroom, hsum⟩ := h
  unfold State.overflowStaged
  split
  · next hstaged =>
    exact ⟨⟨hothers, ⟨hroom, hsum⟩, hruns, rfl, hstaged, hrequest⟩, .of_same rfl⟩
  · next o hstaged =>
    have hlanes := State.toOverflow_lanes i o (s.setPipe i { s.pipes[i] with staged := none })
    have hpipe : ((s.setPipe i { s.pipes[i] with staged := none }).toOverflow i o).pipes[i] =
        { s.pipes[i] with staged := none } := by rw [State.toOverflow_pipes, State.setPipe_self]
    have hpipes : ∀ j, j ≠ i →
        ((s.setPipe i { s.pipes[i] with staged := none }).toOverflow i o).pipes[j] = s.pipes[j] :=
      fun j hj => by rw [State.toOverflow_pipes, State.setPipe_other _ _ _ _ (Ne.symm hj)]
    have hsum' : (s.lanes[i]).reserved =
        ({ s.pipes[i] with staged := none : Pipeline }.orders.map Order.fill).sum + o.fill := by
      rw [hsum]
      simp only [Pipeline.orders, hstaged, List.map_append, List.sum_append, Option.toList_some,
        Option.toList_none, List.map_cons, List.map_nil, List.sum_cons, List.sum_nil]
      omega
    refine ⟨⟨fun j hj => ?_, ?_, ?_, rfl, ?_, ?_⟩, .of_pipes fun j => ?_⟩
    · rw [get_of_set hlanes j, if_neg (Ne.symm hj), hpipes j hj]
      exact hothers j hj
    · rw [get_of_set hlanes i, if_pos rfl, hpipe]
      refine ⟨?_, ?_⟩
      · simp only [Lane.marked, State.setPipe_lanes]; omega
      · simp only [Lane.marked, State.setPipe_lanes, hsum']; omega
    · rw [get_of_set hlanes i, if_pos rfl]; exact hruns
    · rw [hpipe]
    · rw [hpipe]; exact hrequest
    · by_cases hj : j = i
      · subst hj
        rw [hpipe]
        refine ⟨?_, Nat.le_refl _⟩
        simp only [Pipeline.orders, Option.toList_none, List.append_nil]
        exact (((List.sublist_append_left _ _).append_right _)).subperm
      · rw [hpipes j hj]; exact ⟨.refl _, Nat.le_refl _⟩

theorem State.overflowStaged_stance (i : Fin 12) (s : State) : SameStance s (s.overflowStaged i) := by
  unfold State.overflowStaged
  split
  · exact .of_same rfl
  · exact SameStance.trans (t := s.setPipe i { s.pipes[i] with staged := none }) (.of_same rfl)
      (State.toOverflow_stance i _ _)

/-- Lane `i` has gone to the state `st`; its bin and its class stay, and the other lanes stand as
before. -/
def Restanced (i : Fin 12) (st : LaneState) (s t : State) : Prop := ∀ j : Fin 12,
  (t.lanes[j]).stance =
    if i = j then (st, (s.lanes[i]).binPresent, (s.lanes[i]).thermal) else (s.lanes[j]).stance

theorem Restanced.same {i : Fin 12} {st : LaneState} {s t u : State} (h : Restanced i st s t)
    (k : SameStance t u) : Restanced i st s u := fun j => (k j).trans (h j)

theorem Restanced.after {i : Fin 12} {st : LaneState} {s t u : State} (h : SameStance s t)
    (k : Restanced i st t u) : Restanced i st s u := by
  intro j
  have hi := h i
  simp only [Lane.stance, Prod.mk.injEq] at hi
  rw [k j, h j, hi.2.1, hi.2.2]

theorem Restanced.trans {i : Fin 12} {a b : LaneState} {s t u : State} (h : Restanced i a s t)
    (k : Restanced i b t u) : Restanced i b s u := by
  intro j
  have hi := h i
  rw [if_pos rfl] at hi
  simp only [Lane.stance, Prod.mk.injEq] at hi
  rw [k j, h j, hi.2.1, hi.2.2]
  split <;> rfl

/-- The law of states, bins and classes, where the new state of a lane fits its bin and its class. -/
theorem Restanced.binsOk {i : Fin 12} {st : LaneState} {s t : State} (h : Restanced i st s t)
    (hhere : binOk { s.lanes[i] with state := st })
    (hothers : ∀ j, j ≠ i → binOk s.lanes[j]) : BinsOk t := by
  intro j
  have hj := h j
  by_cases hij : i = j
  · subst hij
    rw [if_pos rfl] at hj
    exact binOk_of_stance (l := { s.lanes[i] with state := st }) hj hhere
  · rw [if_neg hij] at hj
    exact binOk_of_stance hj (hothers j (Ne.symm hij))

theorem Restanced.state {i : Fin 12} {st : LaneState} {s t : State} (h : Restanced i st s t) :
    (t.lanes[i]).state = st := by
  have hi := h i
  rw [if_pos rfl] at hi
  exact congrArg Prod.fst hi

theorem State.storeLaneState_restanced (i : Fin 12) (st : LaneState) (s : State) :
    Restanced i st s (s.storeLaneState i st) := by
  intro j
  rw [get_of_set (State.storeLaneState_lanes i st s) j]
  split <;> rfl

theorem State.enterOut_restanced (i : Fin 12) (st : LaneState) (s : State) :
    Restanced i st s (s.enterOut i st) := by
  have hstaged : SameStance (s.storeLaneState i st)
      (((s.storeLaneState i st).withdrawStroke i).overflowStaged i) :=
    (SameStance.of_same (State.withdrawStroke_lanes i _)).trans (State.overflowStaged_stance i _)
  exact (State.storeLaneState_restanced i st s).same
    ((hstaged.trans (State.rerouteAll_stance i _ _)).trans (.of_same rfl))

/-- Entry into SWAP or FAULT keeps the law of the lanes (R111, R132). -/
theorem State.enterOut_keeps {i : Fin 12} {st : LaneState} {s : State} (hst : st.IsOut)
    (h : LanesOkBut i s) : LanesOk (s.enterOut i st) ∧ NoneNew s (s.enterOut i st) := by
  obtain ⟨hbut, hpipe, hnone⟩ := h.stops hst.runs (State.storeLaneState_lanes i st s) rfl
  have hruns : (((s.storeLaneState i st).withdrawStroke i).lanes[i]).state.runs = false := by
    rw [State.withdrawStroke_lanes, get_of_set (State.storeLaneState_lanes i st s) i, if_pos rfl]
    exact hst.runs
  obtain ⟨hleaving, hnone'⟩ := hbut.overflowStaged hruns (by rw [hpipe])
  obtain ⟨hend, hnone''⟩ := hleaving.rerouteAll
  refine ⟨fun k => ?_, (hnone.trans hnone').trans (hnone''.trans (.of_same rfl))⟩
  by_cases hk : k = i
  · subst hk
    have hstate := (State.enterOut_restanced k st s).state
    refine (laneOk_iff _ _).2 ⟨hend.filled, fun hclosed => ?_, fun _ => ⟨hend.queue, hend.staged⟩,
      requestOk_of_none hend.request⟩
    rw [← hstate, hclosed] at hst
    simp [LaneState.IsOut] at hst
  · exact hend.others k hk

end Sys2Proof.Machine
end

section
/-! SUPPORT. The changes of a lane's state, the ends of drops, the lane reports and the acceptances work in
the back room (`Works`). -/

namespace Sys2Proof.Machine

-- One theorem after another: many that wait for the kernel at once take threads and memory.
set_option Elab.async false

/-! ## Changes of a lane's state (R102, R108, R110) -/

/-- An event keeps the law of the lanes, and brings no new order. -/
def Orderly (s t : State) : Prop := LanesOk s → LanesOk t ∧ NoneNew s t

theorem Orderly.trans {s t u : State} (h : Orderly s t) (k : Orderly t u) : Orderly s u := fun hs =>
  ⟨(k (h hs).1).1, (h hs).2.trans (k (h hs).1).2⟩

theorem Orderly.works {s t : State} (h : Orderly s t) (hbins : BinsOk s → BinsOk t) : Works s t :=
  .of_noneNew (fun hs => (h hs).1) hbins fun hs => (h hs).2

theorem Orderly.of_moved {s t : State} (h : RequestsOk s → Moved s t) : Orderly s t := fun hs =>
  ⟨(h hs.requestsOk).lanesOk hs, (h hs.requestsOk).noneNew⟩

/-- A record is written in a way that the law of its lane allows. -/
theorem Orderly.of_lane {i : Fin 12} {l : Lane} {s t : State}
    (hlanes : t.lanes = s.lanes.set i.val l i.isLt) (hpipes : t.pipes = s.pipes)
    (hlane : laneOk s.lanes[i] s.pipes[i] → laneOk l s.pipes[i]) : Orderly s t := by
  refine fun hs => ⟨fun j => ?_, .of_same hpipes⟩
  have hj := hs j
  rw [get_of_set hlanes j, hpipes]
  split
  · next hij => subst hij; exact hlane hj
  · exact hj

/-- A state other than SWAP and FAULT, and CLOSED only for an empty pipeline (R104, R131). -/
theorem State.changeLane_orderly {i : Fin 12} {st : LaneState} {s : State} (hout : ¬st.IsOut)
    (hclosed : st = .closed → (s.pipes[i]).isEmpty = true) : Orderly s (s.changeLane i st) := by
  unfold State.changeLane
  dsimp only
  split
  · next hruns =>
    refine .of_lane (i := i) rfl rfl fun h => ?_
    obtain ⟨hfilled, -, -, hrequest⟩ := (laneOk_iff _ _).1 h
    exact (laneOk_iff _ _).2 ⟨hfilled, hclosed, fun h => absurd h hout, fun hr =>
      ⟨(hrequest hr).1, (hrequest hr).2.1, hruns, (hrequest hr).2.2.2⟩⟩
  · next hruns =>
    intro hs
    have hlanes := State.storeLaneState_lanes i st s
    obtain ⟨⟨hothers, hfilled⟩, hpipe, hnone⟩ :=
      (hs.but i).stops (u := (s.storeLaneState i st).placeLaneMode i) (Bool.eq_false_iff.2 hruns)
        hlanes rfl
    refine ⟨fun j => ?_, hnone⟩
    by_cases hj : j = i
    · subst hj
      have hstate : ((((s.storeLaneState j st).placeLaneMode j).withdrawStroke j).lanes[j]).state =
          st := by
        rw [State.withdrawStroke_lanes]
        exact (State.storeLaneState_restanced j st s).state
      refine (laneOk_iff _ _).2 ⟨hfilled, fun h => ?_, fun h => absurd (hstate ▸ h) hout,
        requestOk_of_none (by rw [hpipe])⟩
      rw [hpipe]
      exact hclosed (hstate.symm.trans h)
    · exact hothers j hj

theorem State.changeLane_restanced (i : Fin 12) (st : LaneState) (s : State) :
    Restanced i st s (s.changeLane i st) := by
  unfold State.changeLane
  dsimp only
  split
  · exact State.storeLaneState_restanced i st s
  · exact (State.storeLaneState_restanced i st s).same (.of_same (State.withdrawStroke_lanes i _))

theorem RunState.laneState_ne_out (b : RunState) : ¬b.laneState.IsOut := by
  cases b <;> simp [LaneState.IsOut, RunState.laneState]

theorem RunState.laneState_ne_closed (b : RunState) : b.laneState ≠ .closed := by
  cases b <;> simp [RunState.laneState]

theorem LaneState.closed_ne_out : ¬LaneState.closed.IsOut := by simp [LaneState.IsOut]

theorem LaneState.rest_ne_out (b : RunState) : ¬(LaneState.rest b).IsOut := by
  simp [LaneState.IsOut]

/-- A return to OPEN or DRAINING, which may go on to CLOSED (R108, R110, R131). -/
theorem State.returnTo_orderly (i : Fin 12) (b : RunState) (s : State) :
    Orderly s (s.returnTo i b) := by
  unfold State.returnTo
  dsimp only
  refine Orderly.trans (t := s.changeLane i b.laneState)
    (State.changeLane_orderly b.laneState_ne_out fun h => absurd h b.laneState_ne_closed) ?_
  split
  · next h => exact State.changeLane_orderly LaneState.closed_ne_out fun _ => h.2
  · exact .of_moved (State.advance_moved i)

theorem State.returnTo_restanced (i : Fin 12) (b : RunState) (s : State) :
    Restanced i b.laneState s (s.returnTo i b) ∨ Restanced i .closed s (s.returnTo i b) := by
  unfold State.returnTo
  dsimp only
  have hchange := State.changeLane_restanced i b.laneState s
  split
  · exact .inr (hchange.trans (State.changeLane_restanced i .closed _))
  · exact .inl (hchange.same (.of_same (State.advance_lanes i _)))

/-- A return keeps the law of states, bins and classes where the bin is in and the class is not OVER. -/
theorem State.returnTo_binsOk {i : Fin 12} {b : RunState} {s : State}
    (hbin : (s.lanes[i]).binPresent = true) (hclass : (s.lanes[i]).thermal ≠ .over)
    (hothers : ∀ j, j ≠ i → binOk s.lanes[j]) : BinsOk (s.returnTo i b) := by
  rcases State.returnTo_restanced i b s with h | h
  · refine h.binsOk ?_ hothers
    cases b <;> exact ⟨hbin, hclass⟩
  · exact h.binsOk trivial hothers

/-! ## Ends of drops (R125 to R130) -/

theorem State.enterFault_works (i : Fin 12) (s : State) : Works s (s.enterFault i) := by
  unfold State.enterFault
  have hfault : Works s (s.enterOut i .fault) :=
    Orderly.works (fun hs => State.enterOut_keeps (.inl rfl) (hs.but i)) fun hs =>
      (State.enterOut_restanced i .fault s).binsOk trivial fun j _ => hs j
  split
  case h_5 | h_6 => exact .refl s
  all_goals exact hfault

/-- The laws of a lane do not speak of its results. -/
theorem laneOk.results {l : Lane} {p : Pipeline} (a b : Option DropResult) (h : laneOk l p) :
    laneOk l { p with last := a, beforeLast := b } := h

theorem State.recordResult_works (i : Fin 12) (r : DropResult) (s : State) :
    Works s (s.recordResult i r) := by
  have hrecord : Works s (s.setPipe i
      { s.pipes[i] with beforeLast := (s.pipes[i]).last, last := some r }) :=
    .of_pipe rfl rfl (.refl _) (Nat.le_refl _) (laneOk.results _ _)
  unfold State.recordResult
  dsimp only
  split
  · exact hrecord.trans (State.enterFault_works i _)
  · exact hrecord

theorem State.goOn_works (i : Fin 12) (s : State) : Works s (s.goOn i) := by
  unfold State.goOn
  split
  · exact State.advance_works i s
  · dsimp only
    split
    · next hempty =>
      refine (State.advance_works i s).trans (Orderly.works
        (State.changeLane_orderly LaneState.closed_ne_out fun _ => hempty) fun hs => ?_)
      exact (State.changeLane_restanced i .closed _).binsOk trivial fun j _ => hs j
    · exact State.advance_works i s
  all_goals exact .refl s

/-- The dropping order leaves its position, and `f` of its fill leaves the reserved fill for `c` of it. -/
theorem laneOk.dropEnds {l m : Lane} {p : Pipeline} {d : Dropping} (h : laneOk l p)
    (hd : p.dropping = some d) (hstate : m.state = l.state) (hcapacity : m.capacity = l.capacity)
    (hreserved : m.reserved = l.reserved - d.order.fill)
    (hcommitted : m.committed = l.committed ∨ m.committed = l.committed + d.order.fill) :
    laneOk m { p with dropping := none } := by
  obtain ⟨⟨hroom, hsum⟩, hclosed, hout, hrequest⟩ := (laneOk_iff _ _).1 h
  have hsum' : l.reserved = d.order.fill +
      ({ p with dropping := none : Pipeline }.orders.map Order.fill).sum := by
    rw [hsum]
    simp [Pipeline.orders, hd]
  refine (laneOk_iff _ _).2 ⟨⟨by omega, by omega⟩, fun hc => ?_, fun ho => hout (hstate ▸ ho), fun hr => ?_⟩
  · have hempty := (Pipeline.isEmpty_iff p).1 (hclosed (hstate ▸ hc))
    simp [Pipeline.orders, hd] at hempty
  · have hnone := (hrequest hr).2.1
    rw [hd] at hnone
    cases hnone

theorem State.endDrop_works (i : Fin 12) (r : DropResult) (s : State) : Works s (s.endDrop i r) := by
  unfold State.endDrop
  split
  · exact .refl s
  · next d hd =>
    dsimp only
    refine Works.trans ?_ (State.goOn_works i _)
    have horders : ({ s.pipes[i] with dropping := none } : Pipeline).orders.Subperm
        (s.pipes[i]).orders := by
      simp only [Pipeline.orders, hd, Option.map_none, Option.toList_none, List.nil_append,
        Option.map_some, Option.toList_some, List.append_assoc]
      exact (List.sublist_cons_self _ _).subperm
    have hend : Works s
        (match r with
          | .pass => (s.setPipe i { s.pipes[i] with dropping := none }).commit i d.order.fill
          | .fail => (s.setPipe i { s.pipes[i] with dropping := none }).toOverflow i d.order) := by
      cases r
      · exact .of_both (State.commit_lanes i _ _) (State.commit_pipes i _ _) horders (Nat.le_refl _)
          (fun h => h.dropEnds hd rfl rfl rfl (.inr rfl)) id
      · exact .of_both (State.toOverflow_lanes i _ _) (State.toOverflow_pipes i _ _) horders
          (Nat.le_refl _) (fun h => h.dropEnds hd rfl rfl rfl (.inl rfl)) id
    split
    · exact hend
    · exact hend.trans (State.recordResult_works i r _)

/-- The mark and the timer of a drop are nothing to the laws of a lane. -/
theorem Works.of_dropping {i : Fin 12} {d e : Dropping} {s t : State}
    (hd : (s.pipes[i]).dropping = some d) (he : e.order = d.order) (hlanes : t.lanes = s.lanes)
    (hpipes : t.pipes = s.pipes.set i.val { s.pipes[i] with dropping := some e } i.isLt) :
    Works s t := by
  have horders : ({ s.pipes[i] with dropping := some e } : Pipeline).orders = (s.pipes[i]).orders := by
    simp only [Pipeline.orders, hd, he, Option.map_some]
  refine .of_pipe hlanes hpipes (by rw [horders]) (Nat.le_refl _) fun h => ?_
  obtain ⟨⟨hroom, hsum⟩, hclosed, hout, hrequest⟩ := (laneOk_iff _ _).1 h
  refine (laneOk_iff _ _).2 ⟨⟨hroom, by rw [horders]; exact hsum⟩, fun hc => ?_, hout, fun hr => ?_⟩
  · rw [Pipeline.isEmpty_iff, horders, ← Pipeline.isEmpty_iff]
    exact hclosed hc
  · have hnone := (hrequest hr).2.1
    rw [hd] at hnone
    cases hnone

theorem State.jam_works (i : Fin 12) (s : State) : Works s (s.jam i) := by
  unfold State.jam
  split
  · exact .refl s
  · next d hd =>
    split
    · exact .refl s
    · refine Works.trans ?_ (State.recordResult_works i .fail _)
      exact .of_dropping (e := { d with jam := true }) hd rfl rfl rfl

/-! ## Lane reports (R107 to R110) -/

theorem binOk_of_runs {l : Lane} (h : l.state.runs = true) :
    binOk l ↔ l.binPresent = true ∧ l.thermal ≠ .over := by
  unfold binOk
  cases hstate : l.state <;> simp_all [LaneState.runs]

theorem binOk_of_rest {l : Lane} {b : RunState} (h : l.state = .rest b) :
    binOk l ↔ l.binPresent = true ∧ l.thermal = .over := by simp only [binOk, h]

theorem binOk_of_swap {l : Lane} {b : RunState} {r : Bool} (h : l.state = .swap b r) :
    binOk l ↔ l.binPresent = false := by simp only [binOk, h]

theorem binOk.of_running {l : Lane} (hruns : l.state.runs = true) (hbin : l.binPresent = true)
    (hclass : l.thermal ≠ .over) : binOk l := (binOk_of_runs hruns).2 ⟨hbin, hclass⟩

theorem binOk.of_resting {l : Lane} {b : RunState} (h : l.state = .rest b)
    (hbin : l.binPresent = true) (hclass : l.thermal = .over) : binOk l :=
  (binOk_of_rest h).2 ⟨hbin, hclass⟩

theorem binOk.of_swapping {l : Lane} {b : RunState} {r : Bool} (h : l.state = .swap b r)
    (hbin : l.binPresent = false) : binOk l := (binOk_of_swap h).2 hbin

theorem binOk_of_idle {l : Lane} (h : l.state = .closed ∨ l.state = .fault) : binOk l := by
  rcases h with h | h <;> simp only [binOk, h]

/-- The class of a lane is written, in a way that the law of its state allows. -/
theorem State.setThermal_works {i : Fin 12} {c : Thermal} {s : State}
    (h : binOk s.lanes[i] → binOk { s.lanes[i] with thermal := c, changed := true }) :
    Works s (s.setLane i { s.lanes[i] with thermal := c, changed := true }) :=
  .of_lane rfl rfl id h

theorem State.reportThermal_works (i : Fin 12) (c : Thermal) (s : State) :
    Works s (s.reportThermal i c) := by
  unfold State.reportThermal
  dsimp only
  have hset : Orderly s (s.setLane i { s.lanes[i] with thermal := c, changed := true }) :=
    .of_lane (i := i) rfl rfl id
  have hself := State.setLane_self s i { s.lanes[i] with thermal := c, changed := true }
  have hothers : BinsOk s → ∀ j, j ≠ i →
      binOk (s.setLane i { s.lanes[i] with thermal := c, changed := true }).lanes[j] :=
    fun hs j hj => by rw [State.setLane_other _ _ _ _ (Ne.symm hj)]; exact hs j
  have hrest : ∀ b : RunState, (s.lanes[i]).state.runs = true → c = .over → Works s
      ((s.setLane i { s.lanes[i] with thermal := c, changed := true }).changeLane i (.rest b)) := by
    intro b hruns hc
    refine (hset.trans (State.changeLane_orderly (LaneState.rest_ne_out b) nofun)).works fun hs => ?_
    refine (State.changeLane_restanced i (.rest b) _).binsOk ?_ (hothers hs)
    rw [hself]
    exact ⟨((binOk_of_runs hruns).1 (hs i)).1, hc⟩
  rw [hself]
  split
  · exact .refl s
  next hnew =>
  dsimp only
  split
  · next h => exact hrest _ (by rw [h]; rfl) rfl
  · next h => exact hrest _ (by rw [h]; rfl) rfl
  · next h =>
    exact State.setThermal_works fun hs => .of_resting h ((binOk_of_rest h).1 hs).1 rfl
  · next b h hclass =>
    refine (hset.trans (State.returnTo_orderly i b _)).works fun hs => ?_
    refine State.returnTo_binsOk ?_ ?_ (hothers hs)
    · rw [hself]; exact ((binOk_of_rest h).1 (hs i)).1
    · rw [hself]; exact hclass
  · next hresting hopened hdraining _ =>
    refine State.setThermal_works fun hs => ?_
    cases h : (s.lanes[i]).state with
    | closed => exact binOk_of_idle (.inl h)
    | fault => exact binOk_of_idle (.inr h)
    | opened =>
      have hruns := congrArg LaneState.runs h
      exact .of_running hruns ((binOk_of_runs hruns).1 hs).1 (hopened h)
    | draining =>
      have hruns := congrArg LaneState.runs h
      exact .of_running hruns ((binOk_of_runs hruns).1 hs).1 (hdraining h)
    | rest b => exact absurd h (hresting b)
    | swap b r => exact .of_swapping h ((binOk_of_swap h).1 hs)

theorem State.binOut_works (i : Fin 12) (s : State) : Works s (s.binOut i) := by
  unfold State.binOut
  dsimp only
  have hset : Orderly s (s.setLane i
      { s.lanes[i] with binPresent := false, fillAtRemoval := (s.lanes[i]).committed }) :=
    .of_lane (i := i) rfl rfl id
  have hself := State.setLane_self s i
    { s.lanes[i] with binPresent := false, fillAtRemoval := (s.lanes[i]).committed }
  have hout : ∀ b r, Works s ((s.setLane i
      { s.lanes[i] with binPresent := false, fillAtRemoval := (s.lanes[i]).committed }).enterOut i
        (.swap b r)) := by
    intro b r
    refine (hset.trans fun hs => State.enterOut_keeps (.inr ⟨b, r, rfl⟩) (hs.but i)).works fun hs => ?_
    refine (State.enterOut_restanced i _ _).binsOk ?_ fun j hj => ?_
    · rw [hself]; rfl
    · rw [State.setLane_other _ _ _ _ (Ne.symm hj)]; exact hs j
  have hstands : (∀ b, (s.lanes[i]).state ≠ .rest b) → (s.lanes[i]).state.runs = false →
      Works s (s.setLane i
        { s.lanes[i] with binPresent := false, fillAtRemoval := (s.lanes[i]).committed }) := by
    intro hrest hruns
    refine .of_lane (i := i) rfl rfl id fun _ => ?_
    cases h : (s.lanes[i]).state with
    | closed => exact binOk_of_idle (.inl h)
    | fault => exact binOk_of_idle (.inr h)
    | swap b r => exact .of_swapping h rfl
    | opened | draining => rw [h] at hruns; cases hruns
    | rest b => exact absurd h (hrest b)
  split
  case h_1 | h_2 | h_3 => exact hout _ _
  all_goals
    next h => exact hstands (by rw [h]; exact nofun) (by rw [h]; rfl)

theorem State.clearItems_works (i : Fin 12) (s : State) : Works s (s.clearItems i) :=
  .of_note (i := i) rfl rfl rfl

/-- The law of a lane asks nothing of an emptied bin but that its fill is within the capacity. -/
theorem laneOk.binIn {l m : Lane} {p : Pipeline} (h : laneOk l p)
    (hm : m = { l with binPresent := true, committed := 0, nearlyFull := m.nearlyFull }) :
    laneOk m p := by
  obtain ⟨⟨hroom, hsum⟩, hlane⟩ := (laneOk_iff _ _).1 h
  rw [hm]
  refine (laneOk_iff _ _).2 ⟨⟨?_, hsum⟩, hlane⟩
  simp only
  omega

/-- A lane comes back from SWAP with its bin in: to REST where its class is OVER, else to the state that it
left (R110). -/
theorem State.swapBack_works {i : Fin 12} {b : RunState} {s t u : State} (hset : Orderly s t)
    (hsame : Orderly t u) (hbin : (u.lanes[i]).binPresent = true)
    (hothers : BinsOk s → ∀ j, j ≠ i → binOk u.lanes[j]) :
    Works s (if (u.lanes[i]).thermal = .over then u.changeLane i (.rest b) else u.returnTo i b) := by
  split
  · next hclass =>
    refine ((hset.trans hsame).trans
      (State.changeLane_orderly (LaneState.rest_ne_out b) nofun)).works fun hs => ?_
    exact (State.changeLane_restanced i (.rest b) u).binsOk ⟨hbin, hclass⟩ (hothers hs)
  · next hclass =>
    refine ((hset.trans hsame).trans (State.returnTo_orderly i b u)).works fun hs => ?_
    exact State.returnTo_binsOk hbin hclass (hothers hs)

theorem State.binIn_works (i : Fin 12) (s : State) : Works s (s.binIn i) := by
  unfold State.binIn
  dsimp only
  have hlanes := State.setLane_tested i { s.lanes[i] with binPresent := true, committed := 0 } s
  have hpipes : ((s.setLane i { s.lanes[i] with binPresent := true, committed := 0 }).testNearlyFull
      i).pipes = s.pipes := State.testNearlyFull_pipes i _
  generalize (s.setLane i { s.lanes[i] with binPresent := true, committed := 0 }).testNearlyFull
    i = t at *
  have hset : Orderly s t := .of_lane hlanes hpipes fun h => h.binIn rfl
  have hself := get_of_set hlanes i
  rw [if_pos rfl] at hself
  have hothers : BinsOk s → ∀ j, j ≠ i → binOk t.lanes[j] := fun hs j hj => by
    rw [get_of_set hlanes j, if_neg (Ne.symm hj)]; exact hs j
  have hstate : (t.lanes[i]).state = (s.lanes[i]).state := by rw [hself]; rfl
  have hbin : (t.lanes[i]).binPresent = true := by rw [hself]; rfl
  have hclass : (t.lanes[i]).thermal = (s.lanes[i]).thermal := by rw [hself]; rfl
  have hworks : (binOk s.lanes[i] → binOk t.lanes[i]) → Works s t := fun h =>
    hset.works fun hs j => by
      by_cases hj : j = i
      · subst hj; exact h (hs j)
      · exact hothers hs j hj
  split
  · next b r h =>
    let u := (t.notify (.binSwapped (laneNo i) (t.lanes[i]).fillAtRemoval
      (t.lanes[i]).itemsSince)).clearItems i
    have hnote : u.lanes = t.lanes.set i.val { t.lanes[i] with itemsSince := 0 } i.isLt := rfl
    have hhere := get_of_set hnote i
    rw [if_pos rfl] at hhere
    have hback := State.swapBack_works (i := i) (b := b) (u := u) hset
      (.of_lane hnote rfl id) (by rw [hhere]; exact hbin) fun hs j hj => by
        rw [get_of_set hnote j, if_neg (Ne.symm hj)]; exact hothers hs j hj
    rwa [hhere] at hback
  · next h =>
    exact (hworks fun _ => binOk_of_idle (.inl h)).trans (State.clearItems_works i t)
  · next h =>
    exact (hworks fun _ => binOk_of_idle (.inr h)).trans (State.clearItems_works i t)
  · next h =>
    have hruns := congrArg LaneState.runs (hstate.symm.trans h)
    exact hworks fun hs => .of_running (congrArg LaneState.runs h) hbin
      (hclass ▸ ((binOk_of_runs hruns).1 hs).2)
  · next h =>
    have hruns := congrArg LaneState.runs (hstate.symm.trans h)
    exact hworks fun hs => .of_running (congrArg LaneState.runs h) hbin
      (hclass ▸ ((binOk_of_runs hruns).1 hs).2)
  · next h =>
    exact hworks fun hs => .of_resting h hbin
      (hclass.trans ((binOk_of_rest (hstate.symm.trans h)).1 hs).2)

theorem State.reportBin_works (i : Fin 12) (present : Bool) (s : State) :
    Works s (s.reportBin i present) := by
  unfold State.reportBin
  split
  · exact State.binOut_works i s
  · exact State.binIn_works i s
  all_goals exact .refl s

theorem State.reportJam_works (i : Fin 12) (jam : Bool) (s : State) :
    Works s (s.reportJam i jam) := by
  unfold State.reportJam
  split
  · exact State.jam_works i s
  · exact .refl s

theorem State.considerWaiting_works (i : Fin 12) (waited : Bool) (s : State) :
    Works s (s.considerWaiting i waited) := by
  unfold State.considerWaiting
  split
  · exact State.consider_works s
  · exact .refl s

theorem State.report_works (i : Fin 12) (r : LaneReport) (s : State) : Works s (s.report i r) :=
  (((State.reportThermal_works i _ s).trans (State.reportBin_works i _ _)).trans
    (State.reportJam_works i _ _)).trans (State.considerWaiting_works i _ _)

/-! ## Acceptances (R26, R99, R121) -/

/-- With no queue too long there are few handles in all (R119). -/
theorem QueuesOk.handles_length {s : State} (h : QueuesOk s) : s.handles.length < 65535 := by
  have hlane : ∀ i : Fin 12, ((s.pipes[i]).orders.map Order.handle).length ≤ 8 := fun i => by
    have hi := h i
    simp only [Pipeline.orders, List.length_map, List.length_append, Option.length_toList]
    simp only [Config.maxQueue] at hi
    have hone : ∀ {α : Type} (o : Option α), (if o.isSome = true then 1 else 0) ≤ 1 := fun o => by
      split <;> omega
    have hdropping := hone ((s.pipes[i]).dropping.map Dropping.order)
    have hstaged := hone (s.pipes[i]).staged
    omega
  unfold State.handles
  rw [List.length_flatMap]
  have hsum : (allLanes.map fun i => ((s.pipes[i]).orders.map Order.handle).length).sum ≤ _ :=
    List.sum_le_card_nsmul _ 8 (List.forall_mem_map.2 fun i _ => hlane i)
  have hcount : allLanes.length = 12 := rfl
  rw [List.length_map, hcount, smul_eq_mul] at hsum
  omega

/-- The handle given next stands in no lane position (R26, R120). -/
theorem State.nextHandle_fresh {s : State} (h : QueuesOk s) :
    1 ≤ s.nextHandle ∧ s.nextHandle ≤ 65535 ∧ s.nextHandle ∉ s.handles :=
  ⟨(freshNumber_range 65535 s.handles s.lastHandle (by omega)).1,
    (freshNumber_range 65535 s.handles s.lastHandle (by omega)).2,
    freshNumber_not_mem 65535 s.handles s.lastHandle h.handles_length⟩

/-- An order with the handle given next joins a lane in OPEN that has room for it. -/
theorem Joined.works {i : Fin 12} {o : Order} {s t : State} (h : LanesOk s → Joined i o s t)
    (hstance : SameStance s t) (hopened : (s.lanes[i]).state = .opened)
    (hqueue : (s.pipes[i]).queue.length < Config.maxQueue)
    (hroom : (s.lanes[i]).committed + (s.lanes[i]).reserved + o.fill ≤ (s.lanes[i]).capacity)
    (hhandle : o.handle = s.nextHandle) : Works s t := by
  refine ⟨fun hs j => ?_, hstance.binsOk, fun hs => (h hs).queuesOk hqueue, fun hs hq hh => ?_⟩
  · by_cases hj : j = i
    · subst hj; exact (h hs).lanesOk_here (hs j) hopened hroom
    · exact (h hs).lanesOk_other hj (hs j)
  · have hperm : t.handles.Perm (s.nextHandle :: s.handles) := by
      rw [State.handles_eq, State.handles_eq, ← hhandle]
      exact (h hs).allOrders.map Order.handle
    obtain ⟨hlow, hhigh, hfresh⟩ := State.nextHandle_fresh hq
    refine ⟨hperm.nodup_iff.2 (List.nodup_cons.2 ⟨hfresh, hh.1⟩), fun x hx => ?_⟩
    rcases List.mem_cons.1 (hperm.mem_iff.1 hx) with rfl | hx
    · exact ⟨hlow, hhigh⟩
    · exact hh.2 x hx

/-- The counts of an accepted item touch no lane. -/
@[simp] theorem State.countAccepted_lanes (a : Accept) (own bottle : Nat) (s : State) :
    (s.countAccepted a own bottle).lanes = s.lanes := by
  unfold State.countAccepted State.countCells
  dsimp only
  split
  · rfl
  · split
    · rfl
    · split <;> rfl

@[simp] theorem State.countAccepted_pipes (a : Accept) (own bottle : Nat) (s : State) :
    (s.countAccepted a own bottle).pipes = s.pipes := by
  unfold State.countAccepted State.countCells
  dsimp only
  split
  · rfl
  · split
    · rfl
    · split <;> rfl

theorem State.accept_lanes (a : Accept) (x : Session) (i : Fin 12) (fill : Nat) (s : State) :
    (s.accept a x i fill).lanes = s.lanes := by
  unfold State.accept
  rw [State.place_lanes, State.countAccepted_lanes, State.appendOrder_lanes]
  rfl

/-- The order of an accepted item. -/
def acceptOrder (a : Accept) (fill : Nat) (s : State) : Order :=
  { handle := s.nextHandle, fill, kind := a.kind, station := a.item.station }

/-- An accepted item's order joins the lane that was chosen for it (R99, R121). -/
theorem State.accept_joined {a : Accept} {x : Session} {i : Fin 12} {fill : Nat} {s : State}
    (h : RequestsOk s) :
    Joined i (acceptOrder a fill s) s ((s.reserve i fill).accept a x i fill) := by
  have hhandle : (s.reserve i fill).nextHandle = s.nextHandle := by
    unfold State.nextHandle State.handles
    rw [State.reserve_pipes, State.reserve_laneOnly i fill s]
  have hjoined : Joined i (acceptOrder a fill s) s
      ({ (s.reserve i fill).sessionAdd a x with lastHandle := (s.reserve i fill).nextHandle }.appendOrder i
        { handle := (s.reserve i fill).nextHandle, fill, kind := a.kind,
          station := a.item.station }) := by
    rw [hhandle]
    exact State.appendOrder_joined (o := acceptOrder a fill s) h rfl (State.reserve_pipes i fill s)
  obtain ⟨hlanes, hhere, hothers⟩ := hjoined
  unfold State.accept
  refine ⟨?_, ?_, fun j hj => ?_⟩
  · rw [State.place_lanes, State.countAccepted_lanes]; exact hlanes
  · rw [State.place_pipes, State.countAccepted_pipes]; exact hhere
  · rw [State.place_pipes, State.countAccepted_pipes]; exact hothers j hj

theorem State.fromCap_works (a : Accept) (s : State) : Works s (s.fromCap a) := by
  unfold State.fromCap
  split
  · exact .refl s
  · split
    · exact .elsewhere
    · split
      · exact .elsewhere
      · next x _ _ _ i hi =>
        obtain ⟨-, hopened, -, -, hqueue, hroom⟩ :=
          State.isCandidate_iff.1 (State.chooseLane_candidate hi)
        refine Joined.works (fun hs => State.accept_joined hs.requestsOk) ?_ hopened hqueue hroom rfl
        exact (State.reserve_stance i _ s).trans (.of_same (State.accept_lanes a x i _ _))

end Sys2Proof.Machine
end

section
/-! SUPPORT. The commands that touch neither the back room nor the hall: lanes, pipelines, referrals, sessions,
stations and the Voucher Unit's place in its queue stay as they are (`Quiet`). -/

namespace Sys2Proof.Machine

-- One theorem after another: many that wait for the kernel at once take threads and memory.
set_option Elab.async false

/-- The fields of the back room and of the hall: those that the laws of fills, positions, referrals and
sessions speak of. -/
def State.floor (s : State) : Vector Lane 12 × Vector Pipeline 12 × List Referral × Vector Nat 8 ×
    List Session × List Nat × List Nat × Option Nat × Vector Station 8 :=
  (s.lanes, s.pipes, s.referrals, s.heldCounts, s.sessions, s.awaiting, s.voucherQueue,
    s.transfer.session?, s.stations)

@[simp] theorem State.reply_floor (tag : Byte) (code : Nat) (r : ReplyCode) (results : List Byte)
    (s : State) : (s.reply tag code r results).floor = s.floor := by simp [State.floor]

@[simp] theorem State.refuse_floor (tag : Byte) (code : Nat) (r : ReplyCode) (s : State) :
    (s.refuse tag code r).floor = s.floor := State.reply_floor tag code r [] s

theorem State.onPort_floor (s : State) (l : Link) (f : Port → Port) :
    (s.onPort l f).floor = s.floor := by cases l <;> rfl

/-- An outcome is a next state whose floor is that of `s`. -/
def Quiet (s : State) (o : Host.Outcome State Fault Refusal) : Prop :=
  ∃ t, o = .next t ∧ t.floor = s.floor

theorem live_quiet {f : State → State} {s : State} (h : (f s).floor = s.floor) : Quiet s (live f s) := by
  cases hr : s.resetAsserted
  · exact ⟨f s, live_released hr, h⟩
  · exact ⟨s, live_asserted hr, rfl⟩

section
variable (s : State) (tag : Byte)

/-! ## The links -/

theorem execSendCollision_quiet (l : Link) : Quiet s (execSendCollision l s) := by
  refine live_quiet ?_
  dsimp only
  split <;> rfl

theorem execHeldFramePlaced_quiet (l : Link) : Quiet s (execHeldFramePlaced l s) := by
  refine live_quiet ?_
  split
  · split
    · unfold State.linesPlaced
      split
      · next hrunning =>
        have hsession : s.transfer.session? = _ := congrArg Transfer.session? hrunning
        split
        · simp only [State.floor, hsession]; rfl
        · rfl
      · rfl
    · rfl
  · rfl

/-! ## Tables -/

theorem execLoadArticle_quiet (r : RawEntry) : Quiet s (execLoadArticle tag r s) := by
  refine live_quiet ?_
  split
  · exact State.reply_floor ..
  · next e he =>
    have hload : (s.loadEntry e).2.floor = s.floor := by
      rcases State.loadEntry_cases e s with h | h
      · rw [h]
      · rw [h]; rfl
    split
    all_goals
      next t ht =>
      rw [ht] at hload
      exact (State.reply_floor ..).trans hload

theorem execRemoveArticle_quiet (n span : Nat) : Quiet s (execRemoveArticle tag n span s) := by
  refine live_quiet ?_
  dsimp only
  split
  · exact State.reply_floor ..
  · split
    · split <;> exact State.reply_floor ..
    · exact State.reply_floor ..

theorem State.answerEntry_floor (e : Option Entry) : (s.answerEntry tag e).floor = s.floor := by
  cases e
  · exact State.refuse_floor ..
  · exact State.reply_floor ..

theorem execReadArticleKey_quiet (n span : Nat) : Quiet s (execReadArticleKey tag n span s) := by
  refine live_quiet ?_
  split
  · exact State.refuse_floor ..
  · split
    · exact State.answerEntry_floor s tag _
    · exact State.refuse_floor ..

theorem execReadArticleLookup_quiet (n : Nat) : Quiet s (execReadArticleLookup tag n s) := by
  refine live_quiet ?_
  split
  · exact State.answerEntry_floor s tag _
  · exact State.refuse_floor ..

theorem execClearTable_quiet : Quiet s (execClearTable tag s) := by
  refine live_quiet ?_
  split <;> exact State.reply_floor ..

theorem execLoadKey_quiet (a b d : Nat) : Quiet s (execLoadKey tag a b d s) := by
  refine live_quiet ?_
  split
  · exact State.refuse_floor ..
  · split
    · split <;> exact State.reply_floor ..
    · exact State.refuse_floor ..

theorem execClearKey_quiet (a : Nat) : Quiet s (execClearKey tag a s) := by
  refine live_quiet ?_
  split
  · exact State.refuse_floor ..
  · split <;> exact State.reply_floor ..

theorem execSetClassValue_quiet (c v : Nat) : Quiet s (execSetClassValue tag c v s) := by
  refine live_quiet ?_
  split
  · split <;> exact State.reply_floor ..
  · exact State.refuse_floor ..

/-! ## Reads, parameters and counters -/

theorem execReadSessionRecord_quiet (n : Nat) : Quiet s (execReadSessionRecord tag n s) := by
  refine live_quiet ?_
  split
  · exact State.refuse_floor ..
  · split <;> exact State.reply_floor ..

theorem execReadSessionLines_quiet (n k : Nat) : Quiet s (execReadSessionLines tag n k s) := by
  refine live_quiet ?_
  dsimp only
  split
  · exact State.refuse_floor ..
  · split <;> exact State.reply_floor ..

theorem execCommandUnknown_quiet (code : Nat) : Quiet s (execCommandUnknown tag code s) := by
  refine live_quiet ?_
  split <;> exact State.reply_floor ..

theorem execReadCounters_quiet (g : Nat) : Quiet s (execReadCounters tag g s) := by
  refine live_quiet ?_
  split <;> exact State.reply_floor ..

theorem execReadAndClear_quiet (g : Nat) : Quiet s (execReadAndClear tag g s) := by
  refine live_quiet ?_
  split
  · next g _ =>
    refine (State.reply_floor ..).trans ?_
    cases g <;> rfl
  · exact State.refuse_floor ..

theorem execOverflowEmptied_quiet : Quiet s (execOverflowEmptied tag s) := by
  refine live_quiet ?_
  exact State.reply_floor ..

theorem State.setStroke_floor (k : StrokeParameter) (v : Nat) :
    (s.setStroke tag k v).floor = s.floor := by
  unfold State.setStroke
  dsimp only
  split
  · split <;> exact State.reply_floor ..
  · exact State.refuse_floor ..

theorem execSetParameter_quiet (n v : Nat) : Quiet s (execSetParameter tag n v s) := by
  refine live_quiet ?_
  split
  · exact State.setStroke_floor s tag _ v
  · exact State.setStroke_floor s tag _ v
  · split <;> exact State.reply_floor ..

end

/-- The commands that touch neither the back room nor the hall. -/
def isQuiet : Instr → Bool
  | .hardwareReset | .feedfltAssert | .frameGapTimeout _ | .frameDiscard _ _ | .frameSendStart _
  | .sendCollision _ | .backoffExpiry _ | .heldFramePlaced _ | .commandUnknown _ _ | .loadArticle _ _
  | .removeArticle _ _ _ | .readArticleKey _ _ _ | .readArticleLookup _ _ | .clearTable _
  | .loadKey _ _ _ _ | .clearKey _ _ | .readKeys _ | .setClassValue _ _ _ | .readClassValues _
  | .readReferrals _ | .readSessionSummary _ | .readSessionRecord _ _ | .readSessionLines _ _ _
  | .readVoucher _ | .overflowEmptied _ | .readBudget _ | .readCounters _ _ | .readAndClear _ _
  | .setParameter _ _ _ | .setParameterStroke _ _ _ | .readParameters _ => true
  | _ => false

theorem exec_quiet (s : State) {c : Instr} (h : isQuiet c = true) : Quiet s (exec c s) := by
  cases c with
  | hardwareReset => exact ⟨_, rfl, rfl⟩
  | feedfltAssert =>
    refine ⟨_, rfl, ?_⟩
    unfold State.feedLevel
    dsimp only
    split <;> rfl
  | frameGapTimeout l | frameSendStart l | backoffExpiry l => exact live_quiet (State.onPort_floor s l _)
  | frameDiscard => exact live_quiet (f := fun s => s) rfl
  | sendCollision l => exact execSendCollision_quiet s l
  | heldFramePlaced l => exact execHeldFramePlaced_quiet s l
  | commandUnknown tag code => exact execCommandUnknown_quiet s tag code
  | loadArticle tag r => exact execLoadArticle_quiet s tag r
  | removeArticle tag n span => exact execRemoveArticle_quiet s tag n span
  | readArticleKey tag n span => exact execReadArticleKey_quiet s tag n span
  | readArticleLookup tag n => exact execReadArticleLookup_quiet s tag n
  | clearTable tag => exact execClearTable_quiet s tag
  | loadKey tag a b d => exact execLoadKey_quiet s tag a b d
  | clearKey tag a => exact execClearKey_quiet s tag a
  | setClassValue tag c v => exact execSetClassValue_quiet s tag c v
  | readSessionRecord tag n => exact execReadSessionRecord_quiet s tag n
  | readSessionLines tag n k => exact execReadSessionLines_quiet s tag n k
  | readCounters tag g => exact execReadCounters_quiet s tag g
  | readAndClear tag g => exact execReadAndClear_quiet s tag g
  | setParameter tag n v => exact execSetParameter_quiet s tag n v
  | setParameterStroke tag k v => exact live_quiet (State.setStroke_floor s tag k v)
  | readKeys | readClassValues | readReferrals | readSessionSummary | readVoucher | readBudget
  | readParameters => exact live_quiet (State.reply_floor ..)
  | overflowEmptied tag => exact execOverflowEmptied_quiet s tag
  | _ => cases h

end Sys2Proof.Machine
end

section
/-! SUPPORT. The hall's own operations leave the lanes and their pipelines as they are, but for the items that
they accept (`Works`). -/

namespace Sys2Proof.Machine

-- One theorem after another: many that wait for the kernel at once take threads and memory.
set_option Elab.async false

section
variable (s : State)

/-! ## The stages of an evaluation -/

theorem State.place_works (f : Frame) : Works s (s.place f) := .elsewhere

theorem State.returnItem_works (st : Fin 8) (seq : Nat) (r : ReturnReason) :
    Works s (s.returnItem st seq r) := .elsewhere

theorem State.requestMiss_works (n : Nat) (w : Waiting) : Works s (s.requestMiss n w) := by
  unfold State.requestMiss
  split
  · split <;> exact .elsewhere
  · split <;> exact .elsewhere

theorem State.requestDecision_works (n : Nat) (e : Entry) (w : Waiting) :
    Works s (s.requestDecision n e w) := by
  unfold State.requestDecision
  split <;> exact .elsewhere

theorem State.fromRights_works (ask : Asking) (n : Nat) (e : Entry) (w : Waiting) :
    Works s (s.fromRights ask n e w) := by
  unfold State.fromRights
  split
  · exact State.returnItem_works s _ _ _
  · exact State.returnItem_works s _ _ _
  · split
    · exact State.requestDecision_works s n e w
    · exact State.returnItem_works s _ _ _
  · exact State.fromCap_works _ s

theorem State.fromLookup_works (ask : Asking) (n : Nat) (w : Waiting) :
    Works s (s.fromLookup ask n w) := by
  unfold State.fromLookup
  split
  · split
    · exact State.requestMiss_works s n w
    · exact State.returnItem_works s _ _ _
  · split
    · exact State.returnItem_works s _ _ _
    · exact State.fromRights_works s ask n _ _

theorem State.fromCode_works (st : Fin 8) (n : Nat) (r : Report) : Works s (s.fromCode st n r) := by
  unfold State.fromCode
  split
  · exact State.returnItem_works s _ _ _
  · exact State.fromLookup_works s _ _ _

theorem State.fromSession_works (st : Fin 8) (r : Report) : Works s (s.fromSession st r) := by
  unfold State.fromSession
  split
  · split
    · exact .trans (t := s.touch _) .elsewhere (State.fromCode_works _ _ _ _)
    · exact State.returnItem_works s _ _ _
  · split
    · exact .trans (t := (s.openSession st).touch s.nextSession) .elsewhere
        (State.fromCode_works _ _ _ _)
    · exact State.returnItem_works s _ _ _

theorem State.evaluate_works (st : Fin 8) (r : Report) : Works s (s.evaluate st r) := by
  unfold State.evaluate
  split
  · split
    · exact .refl s
    · split
      · exact State.returnItem_works s _ _ _
      · exact State.fromSession_works s st r
  · split
    · exact .refl s
    · exact State.returnItem_works s _ _ _
  all_goals exact .refl s

/-! ## The ends of held items -/

theorem State.releaseItem_works (w : Waiting) : Works s (s.releaseItem w) :=
  .trans (t := s.unhold w) .elsewhere (State.settle_sessionOnly _ _).works

theorem State.endItems_works {verdict : Waiting → State → State}
    (h : ∀ w t, Works t (verdict w t)) (ws : List Waiting) : Works s (s.endItems verdict ws) := by
  induction ws generalizing s with
  | nil => exact .refl s
  | cons w ws ih => exact ((h w s).trans (State.releaseItem_works _ w)).trans (ih _)

theorem State.removeWaiting_works (gone : Waiting → Bool) (cause : EndedCause) :
    Works s (s.removeWaiting gone cause) := .elsewhere (by simp [State.removeWaiting])
      (by simp [State.removeWaiting])

theorem State.leaveService_works (st : Fin 8) : Works s (s.leaveService st) := by
  have hunhold : ∀ (ws : List Waiting) (t : State), Works t (ws.foldl (fun t w => t.unhold w) t) := by
    intro ws
    induction ws with
    | nil => exact .refl
    | cons w ws ih => exact fun t => .trans (t := t.unhold w) .elsewhere (ih _)
  have hremove : Works s (s.removeStation st) :=
    (hunhold _ s).trans (State.removeWaiting_works _ _ _)
  unfold State.leaveService
  refine hremove.trans ?_
  dsimp only
  split
  · split
    · exact (State.closeSession_sessionOnly _ _ _).works
    · exact (State.settle_sessionOnly _ _).works
  · exact .refl _

theorem State.lose_works (st : Fin 8) (loss : LossCause) (cause : ChangeCause)
    (k : Option StationKind) : Works s (s.lose st loss cause k) := by
  unfold State.lose
  exact (Works.trans (t := s.setStation st _) .elsewhere (State.leaveService_works _ st)).trans
    .elsewhere

theorem State.loadEntry_works (e : Entry) : Works s (s.loadEntry e).2 := by
  rcases State.loadEntry_cases e s with h | h
  · rw [h]; exact .refl s
  · rw [h]; exact .elsewhere

end

/-- An outcome is a next state whose back room is as that of `s` or works on from it. -/
def Working (s : State) (o : Host.Outcome State Fault Refusal) : Prop :=
  ∃ t, o = .next t ∧ Works s t

theorem live_working {f : State → State} {s : State} (h : Works s (f s)) : Working s (live f s) := by
  cases hr : s.resetAsserted
  · exact ⟨f s, live_released hr, h⟩
  · exact ⟨s, live_asserted hr, .refl s⟩

theorem Quiet.working {s : State} {o : Host.Outcome State Fault Refusal} (h : Quiet s o) :
    Working s o := by
  obtain ⟨t, hnext, hfloor⟩ := h
  simp only [State.floor, Prod.mk.injEq] at hfloor
  obtain ⟨hlanes, hpipes, -⟩ := hfloor
  exact ⟨t, hnext, .elsewhere hlanes hpipes⟩

section
variable (s : State) (tag : Byte)

/-! ## Stations, sessions and referrals -/

theorem State.countAnnounce_works (st : Fin 8) (k : StationKind) : Works s (s.countAnnounce st k) := by
  unfold State.countAnnounce
  dsimp only
  split
  · exact .elsewhere
  · split <;> exact .elsewhere

theorem State.hearAnnounce_works (st : Fin 8) (k : StationKind) : Works s (s.hearAnnounce st k) := by
  unfold State.hearAnnounce
  dsimp only
  split
  · exact .elsewhere
  · exact State.lose_works s _ _ _ _

theorem execAnnounce_working (src : Nat) (payload : List Byte) :
    Working s (execAnnounce src payload s) := by
  refine live_working ?_
  split
  · split
    · exact State.countAnnounce_works s _ _
    · exact State.hearAnnounce_works s _ _
    · exact State.hearAnnounce_works s _ _
    · exact State.hearAnnounce_works s _ _
    all_goals exact .refl s
  · exact .refl s

theorem execSilenceExpiry_working (n : Nat) : Working s (execSilenceExpiry n s) := by
  refine live_working ?_
  split
  · split
    · split
      · exact State.lose_works s _ _ _ _
      · exact .refl s
    · exact .refl s
  · exact .refl s

theorem execItemReport_working (src : Nat) (payload : List Byte) :
    Working s (execItemReport src payload s) := by
  refine live_working ?_
  split
  · exact State.evaluate_works s _ _
  · exact .refl s

theorem execItemWithdraw_working (src : Nat) (payload : List Byte) :
    Working s (execItemWithdraw src payload s) := by
  refine live_working ?_
  split
  · split
    · exact (Works.trans (t := s.unhold _) .elsewhere (State.removeWaiting_works _ _ _)).trans
        (State.settle_sessionOnly _ _).works
    · exact .refl s
  · exact .refl s

theorem execSessionClose_working (src : Nat) (payload : List Byte) :
    Working s (execSessionClose src payload s) := by
  refine live_working ?_
  split
  · split
    · split
      · exact (State.closeSession_sessionOnly _ _ _).works
      · exact .refl s
    · split
      · exact (State.closeSession_sessionOnly _ _ _).works
      · exact .refl s
    · exact .refl s
  · exact .refl s

theorem execIdleExpiry_working (n : Nat) : Working s (execIdleExpiry n s) := by
  refine live_working ?_
  split
  · split
    · split
      · exact (State.closeSession_sessionOnly _ _ _).works
      · exact .refl s
    · exact .refl s
  · exact .refl s

theorem execReferralExpiry_working (n : Nat) : Working s (execReferralExpiry n s) := by
  refine live_working ?_
  split
  · split
    · exact (State.endItems_works s (fun w t => State.returnItem_works t _ _ _) _).trans .elsewhere
    · exact .refl s
  · exact .refl s

theorem State.lateEntry_works (e : Entry) : Works s (s.lateEntry tag e) := by
  have hload := State.loadEntry_works s e
  unfold State.lateEntry
  split
  all_goals
    next t ht =>
    rw [ht] at hload
    exact hload.reply _ _ _ _

theorem State.answerMiss_works (r : Referral) (e : Entry) : Works s (s.answerMiss tag r e) := by
  have hload := State.loadEntry_works s e
  unfold State.answerMiss
  split
  · next t ht =>
    rw [ht] at hload
    exact hload.trans (State.refuse_works _ _ _ _)
  all_goals
    next t ht =>
    rw [ht] at hload
    exact (hload.trans (.trans (t := t.freeReferral r.number) .elsewhere
      (State.endItems_works _ (fun w u => State.fromLookup_works u _ _ w) _))).reply _ _ _ _

theorem execReferralAnswerEntry_working (n : Nat) (e : RawEntry) :
    Working s (execReferralAnswerEntry tag n e s) := by
  refine live_working ?_
  split
  · split
    · exact State.lateEntry_works s tag _
    · split
      · exact State.refuse_works _ _ _ s
      · exact State.answerMiss_works s tag _ _
  · exact State.refuse_works _ _ _ s

theorem State.resolve_works (r : Referral) {verdict : Waiting → State → State}
    (h : ∀ w t, Works t (verdict w t)) : Works s (s.resolve tag r verdict) :=
  (Works.trans (t := s.freeReferral r.number) .elsewhere (State.endItems_works _ h _)).reply _ _ _ _

theorem execReferralAnswerDecide_working (n v c r : Nat) :
    Working s (execReferralAnswerDecide tag n v c r s) := by
  refine live_working ?_
  split
  · split
    · exact State.refuse_works _ _ _ s
    · split
      · exact State.resolve_works s tag _ fun w t => State.returnItem_works t _ _ _
      · split
        · exact State.resolve_works s tag _ fun w t => State.fromCap_works _ t
        · exact State.refuse_works _ _ _ s
  · exact State.refuse_works _ _ _ s

theorem execDiscardSession_working (n : Nat) : Working s (execDiscardSession tag n s) := by
  refine live_working ?_
  split
  · exact State.refuse_works _ _ _ s
  · split
    · exact State.refuse_works _ _ _ s
    · split
      · exact Works.reply .elsewhere _ _ _ _
      · exact State.refuse_works _ _ _ s

/-! ## The Voucher Unit -/

theorem execRequestAccepted_working (src : Nat) (payload : List Byte) :
    Working s (execRequestAccepted src payload s) := by
  refine live_working ?_
  split
  · split
    · split
      · exact (State.enterData_sessionOnly _ _ s).works
      · exact (State.stopTransfer_sessionOnly _ s).works
    · exact .refl s
  · exact .refl s

theorem execVoucherStatus_working (src : Nat) (payload : List Byte) :
    Working s (execVoucherStatus src payload s) := by
  refine live_working ?_
  split
  · split
    · split
      · exact (State.stopTransfer_sessionOnly _ s).works
      · exact (State.endTransfer_sessionOnly _ _ _ s).works
    · exact .refl s
  · exact .refl s

theorem execReplyTimerExpiry_working : Working s (execReplyTimerExpiry s) := by
  refine live_working ?_
  split
  · split
    · exact (State.stopTransfer_sessionOnly _ s).works
    · exact .refl s
  · exact .refl s

theorem State.onStopped_works (n : Nat) {act : Phase → Nat → State → State}
    (h : ∀ p t, Works s (act p t s)) : Works s (s.onStopped tag n act) := by
  unfold State.onStopped
  split
  · exact State.refuse_works _ _ _ s
  · split
    · split
      · exact h _ _
      · exact State.refuse_works _ _ _ s
    all_goals exact State.refuse_works _ _ _ s

theorem State.resumePhase_works (p : Phase) (n t : Nat) : Works s (s.resumePhase p n t) := by
  cases p
  · exact (State.enterRequest_sessionOnly n t s).works
  · exact (State.enterData_sessionOnly n t s).works
  · exact .elsewhere

theorem execVoucherControlResume_working (n : Nat) :
    Working s (execVoucherControlResume tag n s) :=
  live_working (State.onStopped_works s tag n fun p t => (State.resumePhase_works s p n t).reply _ _ _ _)

theorem execVoucherControlRestart_working (n : Nat) :
    Working s (execVoucherControlRestart tag n s) :=
  live_working (State.onStopped_works s tag n fun _ _ =>
    (State.beginRequest_sessionOnly n s).works.reply _ _ _ _)

theorem execVoucherControlCancel_working (n : Nat) :
    Working s (execVoucherControlCancel tag n s) :=
  live_working (State.onStopped_works s tag n fun _ _ =>
    (State.endTransfer_sessionOnly n _ _ s).works.reply _ _ _ _)

theorem execVoucherControlAbort_working (n : Nat) : Working s (execVoucherControlAbort tag n s) := by
  refine live_working ?_
  split
  · exact State.refuse_works _ _ _ s
  · split
    · split
      · refine Works.reply ?_ _ _ _ _
        refine Works.trans ?_ (State.stopTransfer_sessionOnly _ _).works
        split
        · exact .elsewhere
        · exact .refl s
      · exact State.refuse_works _ _ _ s
    all_goals exact State.refuse_works _ _ _ s

/-! ## STATION GO and READ STATUS of a station -/

theorem execReadStatusStation_working (n : Nat) : Working s (execReadStatusStation tag n s) := by
  refine live_working ?_
  split
  · exact State.refuse_works _ _ _ s
  · exact Works.reply .elsewhere _ _ _ _

theorem execStationGoListen_working (n : Nat) : Working s (execStationGoListen tag n s) := by
  refine live_working ?_
  split
  · exact State.refuse_works _ _ _ s
  · dsimp only
    split
    · exact Works.reply .elsewhere _ _ _ _
    · exact Works.reply .elsewhere _ _ _ _
    all_goals exact State.refuse_works _ _ _ s

theorem State.operate_works (st : Fin 8) :
    Works s ((s.enterMode st .operating).deliverAwaiting st) :=
  .trans (t := s.enterMode st .operating) .elsewhere (State.deliverAwaiting_sessionOnly st _).works

theorem execStationGoOperate_working (n : Nat) : Working s (execStationGoOperate tag n s) := by
  refine live_working ?_
  split
  · exact State.refuse_works _ _ _ s
  · split
    · exact (State.operate_works s _).reply _ _ _ _
    · exact (State.operate_works s _).reply _ _ _ _
    all_goals exact State.refuse_works _ _ _ s

theorem execStationGoPause_working (n : Nat) : Working s (execStationGoPause tag n s) := by
  refine live_working ?_
  split
  · exact State.refuse_works _ _ _ s
  · split
    · exact Works.reply .elsewhere _ _ _ _
    all_goals exact State.refuse_works _ _ _ s

theorem State.turnOff_works (st : Fin 8) : Works s (s.turnOff st) := by
  unfold State.turnOff
  dsimp only
  refine Works.trans ?_ (State.place_works _ _)
  split
  · exact .elsewhere
  · exact .trans (t := s.setStation st _) .elsewhere (State.leaveService_works _ st)
  · exact .trans (t := s.setStation st _) .elsewhere (State.leaveService_works _ st)
  · exact .trans (t := s.setStation st _) .elsewhere (State.leaveService_works _ st)
  · exact .elsewhere
  · exact .refl s

theorem execStationGoOff_working (n : Nat) : Working s (execStationGoOff tag n s) := by
  refine live_working ?_
  split
  · exact State.refuse_works _ _ _ s
  · split
    · exact State.reply_works _ _ _ _ s
    · exact (State.turnOff_works s _).reply _ _ _ _

end

end Sys2Proof.Machine
end

section
/-! SUPPORT. CORNER RESET in the back room (R118, R136): what its three passes over the lanes leave of a lane
and its pipeline, lane by lane. -/

namespace Sys2Proof.Machine

-- One theorem after another: many that wait for the kernel at once take threads and memory.
set_option Elab.async false

/-- A lane's record with its pipeline. -/
def State.bay (s : State) (i : Fin 12) : Lane × Pipeline := (s.lanes[i], s.pipes[i])

/-- A pass over the lanes that works on each bay alone has worked on every bay once. -/
theorem foldl_bays {f : State → Fin 12 → State} {g : Lane × Pipeline → Lane × Pipeline}
    (h : ∀ t i j, (f t i).bay j = if i = j then g (t.bay j) else t.bay j) (s : State) (j : Fin 12) :
    (allLanes.foldl f s).bay j = g (s.bay j) := by
  have hpass : ∀ (is : List (Fin 12)) (t : State), is.Nodup →
      (is.foldl f t).bay j = if j ∈ is then g (t.bay j) else t.bay j := by
    intro is
    induction is with
    | nil => exact fun t _ => by simp
    | cons i is ih =>
      intro t hnodup
      obtain ⟨hnew, htail⟩ := List.nodup_cons.1 hnodup
      rw [List.foldl_cons, ih _ htail, h]
      by_cases hij : i = j
      · subst hij; simp [hnew]
      · simp [hij, Ne.symm hij]
  rw [hpass allLanes s allLanes_nodup, if_pos (mem_allLanes j)]

theorem State.bay_of_set {i : Fin 12} {l : Lane} {s t : State}
    (hlanes : t.lanes = s.lanes.set i.val l i.isLt) (hpipes : t.pipes = s.pipes) (j : Fin 12) :
    t.bay j = if i = j then (l, s.pipes[i]) else s.bay j := by
  unfold State.bay
  rw [get_of_set hlanes j, hpipes]
  split
  · next hij => subst hij; rfl
  · rfl

/-! ## The three passes -/

/-- A lane whose orders have been released, one after another, each with a test of the mark. -/
def Lane.released (l : Lane) (os : List Order) : Lane :=
  os.foldl (fun l o => { l with reserved := l.reserved - o.fill : Lane }.marked) l

/-- All releases together, but for the mark. -/
theorem Lane.released_marked (l : Lane) (os : List Order) :
    (l.released os).marked =
      { l with reserved := l.reserved - (os.map Order.fill).sum : Lane }.marked := by
  induction os generalizing l with
  | nil => rfl
  | cons o os ih =>
    refine (ih _).trans ?_
    simp only [Lane.marked, Lane.atWarn, List.map_cons, List.sum_cons, Nat.sub_sub]

theorem State.foldl_toOverflow_bay (i : Fin 12) (os : List Order) (s : State) (j : Fin 12) :
    (os.foldl (fun t o => t.toOverflow i o) s).bay j =
      if i = j then ((s.lanes[i]).released os, s.pipes[i]) else s.bay j := by
  induction os generalizing s with
  | nil =>
    split
    · next hij => subst hij; rfl
    · rfl
  | cons o os ih =>
    have hlanes := State.toOverflow_lanes i o s
    have hone := State.bay_of_set hlanes (State.toOverflow_pipes i o s) j
    rw [List.foldl_cons, ih, State.toOverflow_pipes, get_of_set hlanes i, if_pos rfl, hone]
    split
    · rfl
    · rfl

theorem State.emptyPipe_bay (s : State) (i j : Fin 12) : (s.emptyPipe i).bay j =
    if i = j then ((s.bay j).1.released (s.bay j).2.orders, Pipeline.reset) else s.bay j := by
  unfold State.emptyPipe
  rw [State.foldl_toOverflow_bay]
  have hpipes : (s.setPipe i Pipeline.reset).pipes = s.pipes.set i.val Pipeline.reset i.isLt := rfl
  split
  · next hij => subst hij; rw [get_of_set hpipes i, if_pos rfl]; rfl
  · next hij =>
    unfold State.bay
    rw [get_of_set hpipes j, if_neg hij]
    rfl

/-- A lane as a close by CORNER RESET leaves it. -/
def Lane.closed (l : Lane) : Lane :=
  if l.state = .closed then l else { l with state := .closed, changed := true }

theorem State.closeLane_bay (s : State) (i j : Fin 12) : (s.closeLane i).bay j =
    if i = j then ((s.bay j).1.closed, (s.bay j).2) else s.bay j := by
  unfold State.closeLane
  split
  · next hclosed =>
    split
    · next hij => subst hij; exact Prod.ext (if_pos hclosed).symm rfl
    · rfl
  · next hopen =>
    rw [State.bay_of_set (t := (s.storeLaneState i .closed).placeLaneMode i) (s := s) (i := i) rfl rfl]
    split
    · next hij => subst hij; exact Prod.ext (if_neg hopen).symm rfl
    · rfl

theorem State.testNearlyFull_bay (s : State) (i j : Fin 12) : (s.testNearlyFull i).bay j =
    if i = j then ((s.bay j).1.marked, (s.bay j).2) else s.bay j := by
  rw [State.bay_of_set (State.testNearlyFull_lanes i s) (State.testNearlyFull_pipes i s)]
  split
  · next hij => subst hij; rfl
  · rfl

/-! ## Their result -/

theorem Lane.closed_marked (l : Lane) : l.closed.marked = { l.marked with
    state := .closed, changed := l.changed || decide (l.state ≠ .closed) } := by
  unfold Lane.closed
  split
  · next h => simp [h, Lane.marked]
  · next h => simp [h, Lane.marked, Lane.atWarn]

/-- A lane as CORNER RESET leaves it: CLOSED, the fills of its orders released, the mark tested. -/
def Lane.emptied (l : Lane) (os : List Order) : Lane :=
  { l with
    state := .closed
    reserved := l.reserved - (os.map Order.fill).sum
    nearlyFull := { l with reserved := l.reserved - (os.map Order.fill).sum : Lane }.atWarn
    changed := l.changed || decide (l.state ≠ .closed) }

/-- What the three passes leave of a lane and its pipeline (R118, R136). -/
theorem State.resetLanes_bay (s : State) (j : Fin 12) : s.resetLanes.bay j =
    ((s.lanes[j]).emptied (s.pipes[j]).orders, Pipeline.reset) := by
  have hreleased := Lane.released_marked s.lanes[j] (s.pipes[j]).orders
  have hstate : ((s.lanes[j]).released (s.pipes[j]).orders).state = (s.lanes[j]).state := by
    injection hreleased
  have hchanged : ((s.lanes[j]).released (s.pipes[j]).orders).changed = (s.lanes[j]).changed := by
    injection hreleased
  unfold State.resetLanes
  dsimp only
  rw [foldl_bays (g := fun b => (b.1.marked, b.2)) State.testNearlyFull_bay,
    foldl_bays (g := fun b => (b.1.closed, b.2)) State.closeLane_bay,
    foldl_bays (g := fun b => (b.1.released b.2.orders, Pipeline.reset)) State.emptyPipe_bay]
  refine Prod.ext ?_ rfl
  refine (Lane.closed_marked ((s.lanes[j]).released (s.pipes[j]).orders)).trans ?_
  rw [hstate, hchanged, hreleased]
  rfl

theorem State.resetLanes_lane (s : State) (j : Fin 12) :
    s.resetLanes.lanes[j] = (s.lanes[j]).emptied (s.pipes[j]).orders := by
  have h := State.resetLanes_bay s j
  rw [State.bay, Prod.mk.injEq] at h
  exact h.1

theorem State.resetLanes_pipe (s : State) (j : Fin 12) :
    s.resetLanes.pipes[j] = Pipeline.reset := by
  have h := State.resetLanes_bay s j
  rw [State.bay, Prod.mk.injEq] at h
  exact h.2

/-- An emptied lane that kept its law keeps it, with no fill reserved. -/
theorem laneOk.emptied {l : Lane} {p : Pipeline} (h : laneOk l p) :
    laneOk (l.emptied p.orders) Pipeline.reset := by
  obtain ⟨⟨hroom, hsum⟩, -⟩ := (laneOk_iff _ _).1 h
  have hreserved : (l.emptied p.orders).reserved = 0 := Nat.sub_eq_zero_of_le (Nat.le_of_eq hsum)
  refine (laneOk_iff _ _).2 ⟨⟨?_, hreserved⟩, fun _ => rfl, fun _ => ⟨rfl, rfl⟩, fun h => nomatch h⟩
  rw [hreserved]
  exact (Nat.le_add_right _ _).trans hroom

theorem State.resetLanes_works (s : State) : Works s s.resetLanes := by
  refine .of_noneNew (fun hs j => ?_) (fun _ j => ?_) fun _ => .of_pipes fun j => ?_
  · rw [State.resetLanes_lane, State.resetLanes_pipe]
    exact (hs j).emptied
  · rw [State.resetLanes_lane]
    exact binOk_of_idle (.inl rfl)
  · rw [State.resetLanes_pipe]
    exact ⟨List.nil_subperm, Nat.zero_le _⟩

end Sys2Proof.Machine
end

section
/-! SUPPORT. The commands of the back room and the two resets: each keeps the laws of the lanes (`Works`), and
so does every step. -/

namespace Sys2Proof.Machine

-- One theorem after another: many that wait for the kernel at once take threads and memory.
set_option Elab.async false

section
variable (s : State) (tag : Byte)

/-! ## Timers and lane drivers -/

theorem State.startDropTimer_works (n lane : Nat) : Works s (s.startDropTimer n lane) := by
  unfold State.startDropTimer
  split
  · exact .refl s
  · split
    · next d hd =>
      split
      · exact .of_dropping (e := { d with expiry := some (s.now + s.params.dropTimeout) }) hd rfl rfl rfl
      · exact .refl s
    · exact .refl s

theorem State.startReplyTimer_works (n : Nat) : Works s (s.startReplyTimer n) := by
  unfold State.startReplyTimer
  split
  · split
    · exact .elsewhere
    · exact .refl s
  all_goals exact .refl s

theorem State.startTimers_works (q : Queued) : Works s (s.startTimers q) := by
  unfold State.startTimers
  split
  · exact State.startReplyTimer_works s _
  · exact State.startReplyTimer_works s _
  · exact State.startReplyTimer_works s _
  · exact State.startDropTimer_works s _ _
  all_goals exact .refl s

theorem State.onPort_works (l : Link) (f : Port → Port) : Works s (s.onPort l f) := by
  cases l <;> exact .elsewhere

theorem execFrameSent_working (l : Link) : Working s (execFrameSent l s) := by
  refine live_working ?_
  dsimp only
  split
  · exact (State.onPort_works s l _).trans (State.startTimers_works _ _)
  · exact .refl s

theorem execDropDone_working (src : Nat) (payload : List Byte) :
    Working s (execDropDone src payload s) := by
  refine live_working ?_
  split
  · split
    · split
      · exact State.endDrop_works _ _ s
      · exact .refl s
    · exact .refl s
  · exact .refl s

theorem execDropExpiry_working (n : Nat) : Working s (execDropExpiry n s) := by
  refine live_working ?_
  split
  · split
    · split
      · split
        · exact State.endDrop_works _ _ s
        · exact .refl s
      · exact .refl s
    · exact .refl s
  · exact .refl s

theorem execStrokeRecordExpiry_working : Working s (execStrokeRecordExpiry s) := by
  refine live_working ?_
  split
  · split
    · exact .trans .elsewhere (State.consider_works _)
    · exact .refl s
  · exact .refl s

theorem execLaneReport_working (src : Nat) (payload : List Byte) :
    Working s (execLaneReport src payload s) := by
  refine live_working ?_
  split
  · exact State.report_works _ _ s
  · exact .refl s

theorem execFeedfltClear_working : Working s (execFeedfltClear s) := by
  refine ⟨_, rfl, ?_⟩
  unfold State.feedLevel
  dsimp only
  split
  · exact .elsewhere
  · rw [if_neg Bool.false_ne_true]
    exact .trans .elsewhere (State.consider_works _)

/-! ## Lane commands -/

/-- A CLOSED lane has no order and no reserved fill, and takes any configuration that holds its
committed fill (R97). -/
theorem laneOk.configured {l : Lane} {p : Pipeline} (h : laneOk l p) (hclosed : l.state = .closed)
    (k : LaneKind) (r : RouteClass) {capacity : Nat} (factor warn : Nat)
    (hfill : l.committed ≤ capacity) :
    laneOk { l with kind := k, route := r, capacity, factor, warn : Lane }.marked p := by
  obtain ⟨⟨-, hsum⟩, hempty, -, hrequest⟩ := (laneOk_iff _ _).1 h
  have hnone := hempty hclosed
  have hreserved : l.reserved = 0 := by
    rw [hsum, (Pipeline.isEmpty_iff p).1 hnone]
    rfl
  refine (laneOk_iff _ _).2 ⟨⟨?_, hsum⟩, fun _ => hnone, fun hout => ?_,
    requestOk_of_none (hrequest.of_empty hnone)⟩
  · simp only [Lane.marked, hreserved]
    omega
  · have hruns : l.state.IsOut := hout
    exact absurd (hclosed ▸ hruns) LaneState.closed_ne_out

theorem State.setLane_works {i : Fin 12} {l : Lane}
    (hlane : laneOk s.lanes[i] s.pipes[i] → laneOk l s.pipes[i]) (hbin : binOk s.lanes[i] → binOk l) :
    Works s (s.setLane i l) := .of_lane rfl rfl hlane hbin

theorem execSetLane_working (n k r c f w : Nat) : Working s (execSetLane tag n k r c f w s) := by
  refine live_working ?_
  split
  · next i kind route _ _ =>
    dsimp only
    split
    · next hclosed =>
      split
      · exact State.refuse_works _ _ _ s
      · next hfill =>
        refine Works.reply (.of_lane (State.setLane_tested i _ s) (State.testNearlyFull_pipes i _)
          (fun h => ?_) fun _ => ?_) _ _ _ _
        · exact h.configured hclosed kind route f w (by omega)
        · exact binOk_of_idle (.inl hclosed)
    · exact State.refuse_works _ _ _ s
  · exact State.refuse_works _ _ _ s

/-- A return to OPEN of a lane whose bin is present and whose class is not OVER. -/
theorem State.returnTo_works {i : Fin 12} (b : RunState)
    (h : BinsOk s → (s.lanes[i]).binPresent = true ∧ (s.lanes[i]).thermal ≠ .over) :
    Works s (s.returnTo i b) :=
  Orderly.works (State.returnTo_orderly i b s) fun hs =>
    State.returnTo_binsOk (h hs).1 (h hs).2 fun j _ => hs j

/-- A change of a lane to a state that fits its bin, its class and its pipeline. -/
theorem State.changeLane_works {i : Fin 12} {st : LaneState} (hout : ¬st.IsOut)
    (hclosed : LanesOk s → st = .closed → (s.pipes[i]).isEmpty = true)
    (hbin : BinsOk s → binOk { s.lanes[i] with state := st }) : Works s (s.changeLane i st) :=
  Orderly.works (fun hs => State.changeLane_orderly hout (hclosed hs) hs) fun hs =>
    (State.changeLane_restanced i st s).binsOk (hbin hs) fun j _ => hs j

theorem execLaneGoOpen_working (n : Nat) : Working s (execLaneGoOpen tag n s) := by
  refine live_working ?_
  split
  · exact State.refuse_works _ _ _ s
  · next i _ =>
    dsimp only
    split
    · split
      · next hready =>
        refine Works.reply ?_ _ _ _ _
        split
        · next hover =>
          exact State.changeLane_works s (LaneState.rest_ne_out _) (fun _ h => nomatch h)
            fun _ => .of_resting rfl hready.2 hover
        · next hover => exact State.returnTo_works s _ fun _ => ⟨hready.2, hover⟩
      · exact State.refuse_works _ _ _ s
    · next hdraining =>
      refine (State.returnTo_works s _ fun hs => ?_).reply _ _ _ _
      exact (binOk_of_runs (by rw [hdraining]; rfl)).1 (hs i)
    all_goals exact State.refuse_works _ _ _ s

/-- LANE GO DRAIN of an OPEN lane: DRAINING, or CLOSED where nothing is to be drained (R104). -/
theorem State.drain_works {i : Fin 12} (hopened : (s.lanes[i]).state = .opened) :
    Works s (s.changeLane i (if (s.pipes[i]).isEmpty then .closed else .draining)) := by
  split
  · next hempty =>
    exact State.changeLane_works s LaneState.closed_ne_out (fun _ _ => hempty)
      fun _ => binOk_of_idle (.inl rfl)
  · refine State.changeLane_works s (RunState.laneState_ne_out .draining) (fun _ h => (nomatch h))
      fun hs => ?_
    have hopen := (binOk_of_runs (by rw [hopened]; rfl)).1 (hs i)
    exact .of_running rfl hopen.1 hopen.2

/-- A lane in REST stays so under LANE GO DRAIN; only where it returns to changes (R104). -/
theorem laneOk.restDrains {l : Lane} {p : Pipeline} {b : RunState} (h : laneOk l p)
    (hrest : l.state = .rest b) : laneOk { l with state := .rest .draining } p := by
  obtain ⟨hfilled, -, -, hrequest⟩ := (laneOk_iff _ _).1 h
  refine (laneOk_iff _ _).2 ⟨hfilled, fun h => (nomatch h),
    fun h => absurd h (LaneState.rest_ne_out _), fun hr => ?_⟩
  have hruns := (hrequest hr).2.2.1
  rw [hrest] at hruns
  cases hruns

theorem execLaneGoDrain_working (n : Nat) : Working s (execLaneGoDrain tag n s) := by
  refine live_working ?_
  split
  · exact State.refuse_works _ _ _ s
  · next i _ =>
    split
    · next hopened => exact (State.drain_works s hopened).reply _ _ _ _
    · next b hrest =>
      refine (State.setLane_works s (fun h => h.restDrains hrest) fun h => ?_).reply _ _ _ _
      have hresting := (binOk_of_rest hrest).1 h
      exact .of_resting rfl hresting.1 hresting.2
    all_goals exact State.refuse_works _ _ _ s

theorem Pipeline.isEmpty_of_none {p : Pipeline} (hqueue : p.queue = []) (hstaged : p.staged = none)
    (hdropping : p.dropping = none) : p.isEmpty = true := by
  simp [Pipeline.isEmpty, hqueue, hstaged, hdropping]

theorem execLaneGoClearFault_working (n : Nat) : Working s (execLaneGoClearFault tag n s) := by
  refine live_working ?_
  split
  · exact State.refuse_works _ _ _ s
  · next i _ =>
    split
    · next hfault =>
      split
      · exact State.refuse_works _ _ _ s
      · next hdropping =>
        have hpipes : (s.setPipe i { s.pipes[i] with last := none, beforeLast := none }).pipes =
            s.pipes.set i.val { s.pipes[i] with last := none, beforeLast := none } i.isLt := rfl
        have hclear : Works s (s.setPipe i { s.pipes[i] with last := none, beforeLast := none }) :=
          .of_pipe rfl hpipes (.refl _) (Nat.le_refl _) (laneOk.results _ _)
        refine (hclear.trans (State.changeLane_works _ LaneState.closed_ne_out (fun hs _ => ?_)
          fun _ => binOk_of_idle (.inl rfl))).reply _ _ _ _
        have hempty := ((laneOk_iff _ _).1 (hs i)).2.2.1 (.inl hfault)
        rw [get_of_set hpipes i, if_pos rfl] at hempty ⊢
        exact Pipeline.isEmpty_of_none hempty.1 hempty.2 (by simpa using hdropping)
    all_goals exact State.refuse_works _ _ _ s

theorem execMaskLane_working (n m : Nat) : Working s (execMaskLane tag n m s) := by
  refine live_working ?_
  split
  · refine (State.setLane_works s ?_ ?_).reply _ _ _ _
    · exact id
    · exact id
  · exact State.refuse_works _ _ _ s

theorem execReadStatusLane_working (n : Nat) : Working s (execReadStatusLane tag n s) := by
  refine live_working ?_
  split
  · exact State.reply_works _ _ _ _ s
  · split
    · exact State.refuse_works _ _ _ s
    · refine (State.setLane_works s ?_ ?_).reply _ _ _ _
      · exact id
      · exact id

/-! ## Resets -/

theorem State.released_works : Works s s.released := by
  have hpipes : s.released.pipes = State.reset.pipes := rfl
  refine ⟨fun _ => reset_lanesOk, fun _ => reset_binsOk, fun _ _ i => ?_, fun _ _ _ => ?_⟩
  · rw [hpipes]
    simp [State.reset, Pipeline.reset]
  · have hnone : s.released.handles = [] := reset_handles
    exact ⟨by simp [hnone], by simp [hnone]⟩

theorem execResetRelease_working : Working s (execResetRelease s) := by
  refine ⟨_, rfl, ?_⟩
  split
  · split
    · exact (State.released_works s).trans .elsewhere
    · exact State.released_works s
  · exact .refl s

theorem State.resetReferrals_works : Works s s.resetReferrals := by
  have hreturn : ∀ (ws : List Waiting) (t : State),
      Works t (ws.foldl (fun t w => t.returnWaiting .reset w) t) := by
    intro ws
    induction ws with
    | nil => exact .refl
    | cons w ws ih => exact fun t => (State.returnItem_works t _ _ _).trans (ih _)
  exact (hreturn s.waitingItems s).trans .elsewhere

theorem execCornerReset_working : Working s (execCornerReset tag s) := by
  refine live_working (Works.reply ?_ _ _ _ _)
  have hhall : Works s s.resetReferrals.resetSessions.resetVoucher :=
    (State.resetReferrals_works s).trans .elsewhere
  unfold State.resetCorner
  refine (hhall.trans (State.resetLanes_works _)).trans ?_
  generalize State.resetLanes _ = t
  exact .elsewhere

end

/-! ## Every step -/

theorem exec_working (s : State) (c : Instr) : Working s (exec c s) := by
  cases hquiet : isQuiet c with
  | true => exact (exec_quiet s hquiet).working
  | false =>
    cases c with
    | resetRelease => exact execResetRelease_working s
    | feedfltClear => exact execFeedfltClear_working s
    | frameSent l => exact execFrameSent_working s l
    | announce src p => exact execAnnounce_working s src p
    | silenceExpiry n => exact execSilenceExpiry_working s n
    | itemReport src p => exact execItemReport_working s src p
    | itemWithdraw src p => exact execItemWithdraw_working s src p
    | sessionClose src p => exact execSessionClose_working s src p
    | idleExpiry n => exact execIdleExpiry_working s n
    | referralExpiry n => exact execReferralExpiry_working s n
    | requestAccepted src p => exact execRequestAccepted_working s src p
    | voucherStatus src p => exact execVoucherStatus_working s src p
    | replyTimerExpiry => exact execReplyTimerExpiry_working s
    | dropDone src p => exact execDropDone_working s src p
    | dropExpiry n => exact execDropExpiry_working s n
    | strokeRecordExpiry => exact execStrokeRecordExpiry_working s
    | laneReport src p => exact execLaneReport_working s src p
    | referralAnswerEntry tag n r => exact execReferralAnswerEntry_working s tag n r
    | referralAnswerDecide tag n v c r => exact execReferralAnswerDecide_working s tag n v c r
    | discardSession tag n => exact execDiscardSession_working s tag n
    | voucherControlResume tag n => exact execVoucherControlResume_working s tag n
    | voucherControlRestart tag n => exact execVoucherControlRestart_working s tag n
    | voucherControlCancel tag n => exact execVoucherControlCancel_working s tag n
    | voucherControlAbort tag n => exact execVoucherControlAbort_working s tag n
    | setLane tag l k r c f w => exact execSetLane_working s tag l k r c f w
    | laneGoOpen tag n => exact execLaneGoOpen_working s tag n
    | laneGoDrain tag n => exact execLaneGoDrain_working s tag n
    | laneGoClearFault tag n => exact execLaneGoClearFault_working s tag n
    | maskLane tag l m => exact execMaskLane_working s tag l m
    | readStatusStation tag n => exact execReadStatusStation_working s tag n
    | readStatusLane tag n => exact execReadStatusLane_working s tag n
    | stationGoListen tag n => exact execStationGoListen_working s tag n
    | stationGoOperate tag n => exact execStationGoOperate_working s tag n
    | stationGoPause tag n => exact execStationGoPause_working s tag n
    | stationGoOff tag n => exact execStationGoOff_working s tag n
    | cornerReset tag => exact execCornerReset_working s tag
    | _ => cases hquiet

theorem State.tick_floor (s : State) : s.tick.floor = s.floor := by
  unfold State.tick
  dsimp only
  split <;> rfl

/-- A step is a command on a state that differs in its queue of commands, or a tick. -/
theorem step_cases {s t : State} (h : step s = .next t) :
    (∃ c rest, exec c { s with pending := rest } = .next t) ∨ t = s.tick := by
  unfold step at h
  split at h
  · next c rest _ => exact .inl ⟨c, rest, h⟩
  · cases h
    exact .inr rfl

theorem step_works {s t : State} (h : step s = .next t) : Works s t := by
  rcases step_cases h with ⟨c, rest, hexec⟩ | rfl
  · obtain ⟨u, hu, hworks⟩ := exec_working { s with pending := rest } c
    rw [hexec] at hu
    cases hu
    exact .trans (t := { s with pending := rest }) .elsewhere hworks
  · have hfloor := State.tick_floor s
    simp only [State.floor, Prod.mk.injEq] at hfloor
    exact .elsewhere hfloor.1 hfloor.2.1

/-- Settles O60. -/
theorem stepKeepsTheFills : Obligations.StepKeepsTheFills := by
  unfold Obligations.StepKeepsTheFills
  exact ⟨fun s t hs hstep => (step_works hstep).lanes hs, fun s t hs hstep => (step_works hstep).bins hs,
    fun s t hlanes hqueues hs hstep => (step_works hstep).handles hlanes hqueues hs⟩

end Sys2Proof.Machine
end

section
/-! SUPPORT. The law of the hall, said of the records by their numbers (`Linked`), and what the changes of one
session record keep of it (R25, R61, R69, R73, R78, R79). -/

namespace Sys2Proof.Machine

-- One theorem after another: many that wait for the kernel at once take threads and memory.
set_option Elab.async false

/-! ## Session records by number -/

theorem State.session?_of_same {s t : State} (h : t.sessions = s.sessions) (n : Nat) :
    t.session? n = s.session? n := by rw [State.session?, h]; rfl

theorem State.onSession_session?_of_ne (s : State) {m n : Nat} (f : Session → Session)
    (hnumber : ∀ x, (f x).number = x.number) (h : m ≠ n) :
    (s.onSession n f).session? m = s.session? m := by
  unfold State.session?
  rw [State.onSession_sessions, List.find?_map]
  have hsame : ((fun x : Session => x.number == m) ∘ fun x => if x.number = n then f x else x) =
      fun x => x.number == m := by
    funext x
    by_cases hx : x.number = n <;> simp [hx, hnumber]
  rw [hsame]
  cases hx : s.sessions.find? (·.number == m) with
  | none => rfl
  | some x => simp [State.session?_number (s := s) hx, h]

theorem State.freeSession_session? (s : State) (n m : Nat) :
    (s.freeSession n).session? m = if m = n then none else s.session? m := by
  unfold State.session?
  rw [State.freeSession_sessions, List.find?_filter]
  split
  · next h =>
    subst h
    rw [List.find?_eq_none]
    simp
  · next h =>
    congr 1
    funext x
    by_cases hx : x.number = m <;> simp [hx, h]

theorem find?_number_cons (x : Session) (xs : List Session) (m : Nat) :
    (x :: xs).find? (·.number == m) = if m = x.number then some x else xs.find? (·.number == m) := by
  rw [List.find?_cons]
  by_cases h : x.number = m
  · simp [h]
  · rw [beq_eq_false_iff_ne.2 h, if_neg (Ne.symm h)]

theorem find?_insertSession {x : Session} {xs : List Session} (hx : x.number ∉ xs.map Session.number)
    (m : Nat) : (insertSession x xs).find? (·.number == m) =
      if m = x.number then some x else xs.find? (·.number == m) := by
  induction xs with
  | nil => exact find?_number_cons x [] m
  | cons y ys ih =>
    simp only [List.map_cons, List.mem_cons, not_or] at hx
    obtain ⟨hy, hys⟩ := hx
    unfold insertSession
    split
    · exact find?_number_cons x (y :: ys) m
    · rw [find?_number_cons, find?_number_cons, ih hys]
      by_cases hm : m = x.number
      · rw [if_neg (hm ▸ hy), if_pos hm, if_pos hm]
      · rw [if_neg hm, if_neg hm]

/-- The state of the session record of a number. -/
def State.phase? (s : State) (n : Nat) : Option SessionState := (s.session? n).map Session.state

/-- A station is attached (R161). -/
def State.isAttached (s : State) (st : Fin 8) : Bool := (s.stations[st]).state.attached

/-! ## The law -/

/-- The seats of the hall: the counts of held items are those of the items `H`, each of which belongs to a
current session of its station; and the law of session states, but that a session named by `out` may stand
without its station, or in CLOSING without an item. -/
structure Seated (H : List Waiting) (out : Nat → Prop) (s : State) : Prop where
  known : ∀ x ∈ s.sessions, s.session? x.number = some x
  counts : ∀ st : Fin 8, s.heldCounts[st] = H.countP fun w => w.station == st
  held : ∀ n x, s.session? n = some x → x.held = H.countP fun w => w.session == n
  owner : ∀ w ∈ H, ∃ x, s.session? w.session = some x ∧ x.station = w.station ∧ x.isCurrent = true
  unique : ∀ m n x y, s.session? m = some x → s.session? n = some y → x.isCurrent = true →
    y.isCurrent = true → x.station = y.station → m = n
  attached : ∀ n x, s.session? n = some x → x.isCurrent = true → ¬out n →
    s.isAttached x.station = true
  closed : ∀ n x, s.session? n = some x → x.state ≠ .opened →
    x.disposition.isSome = true ∧ x.idleExpiry = none
  waits : ∀ n x, s.session? n = some x → x.state = .closing → ¬out n → x.held ≠ 0

/-- The law of the voucher queue, for the states of the sessions by number and the session of the
transfer. -/
structure QueueLaw (phase : Nat → Option SessionState) (queue : List Nat) (head : Option Nat) :
    Prop where
  nodup : queue.Nodup
  queued : ∀ n, n ∈ queue ↔ phase n = some .queued ∨ phase n = some .issuing
  first : head = queue.head?
  issuing : ∀ n, phase n = some .issuing ↔ head = some n

/-- The law of AWAIT_PRINT, for the states of the sessions by number. -/
structure PrintLaw (phase : Nat → Option SessionState) (awaiting : List Nat) : Prop where
  nodup : awaiting.Nodup
  printing : ∀ n, n ∈ awaiting ↔ phase n = some .awaitPrint

/-- The links of the hall, with the items `H` held, but for the sessions named by `out`. -/
structure Linked (H : List Waiting) (out : Nat → Prop) (s : State) : Prop where
  seats : Seated H out s
  queue : QueueLaw s.phase? s.voucherQueue s.transfer.session?
  print : PrintLaw s.phase? s.awaiting

/-- No session is left out. -/
def noSession (_ : Nat) : Prop := False

/-! ## The law of the obligation -/

theorem SessionsOk.known {s : State} (hs : SessionsOk s) :
    ∀ x ∈ s.sessions, s.session? x.number = some x := by
  intro x hx
  obtain ⟨-, hsorted, -⟩ := hs
  have hfound : (s.session? x.number).isSome := List.find?_isSome.2 ⟨x, hx, by simp⟩
  obtain ⟨y, hy⟩ := Option.isSome_iff_exists.1 hfound
  rw [hy, session_unique hsorted (List.mem_of_find?_eq_some hy) hx (State.session?_number hy)]

theorem State.mem_of_session? {s : State} {n : Nat} {x : Session} (h : s.session? n = some x) :
    x ∈ s.sessions := List.mem_of_find?_eq_some h

/-- Of different records at most one has a property. -/
theorem filter_length_le_one {α : Type} [DecidableEq α] {l : List α} (hl : l.Nodup) {p : α → Bool} :
    (l.filter p).length ≤ 1 ↔ ∀ a ∈ l, ∀ b ∈ l, p a = true → p b = true → a = b := by
  rw [← List.toFinset_card_of_nodup (hl.filter p), Finset.card_le_one]
  simp only [List.mem_toFinset, List.mem_filter]
  exact ⟨fun h a ha b hb hpa hpb => h a ⟨ha, hpa⟩ b ⟨hb, hpb⟩,
    fun h a ha b hb => h a ha.1 b hb.1 ha.2 hb.2⟩

/-- The law of the obligation is that of the seats and of the queue, for the items of the Referral List. -/
theorem linkedOk_iff {s : State} (hs : SessionsOk s) :
    LinkedOk s ↔ Linked s.waitingItems noSession s := by
  have hknown := hs.known
  have hnodup : s.sessions.Nodup :=
    List.Nodup.of_map Session.number (hs.2.1.imp Nat.ne_of_lt)
  have hmem : ∀ {n x}, s.session? n = some x → x ∈ s.sessions ∧ x.number = n := fun h =>
    ⟨State.mem_of_session? h, State.session?_number h⟩
  have hphase : ∀ n st, s.phase? n = some st ↔ ∃ x ∈ s.sessions, x.number = n ∧ x.state = st := by
    intro n st
    unfold State.phase?
    rw [Option.map_eq_some_iff]
    exact ⟨fun ⟨x, hx, hst⟩ => ⟨x, (hmem hx).1, (hmem hx).2, hst⟩,
      fun ⟨x, hx, hn, hst⟩ => ⟨x, hn ▸ hknown x hx, hst⟩⟩
  constructor
  · rintro ⟨⟨hcounts, hheld, howner⟩, ⟨hunique, hstates⟩, hqueue, hqueued, hfirst, hissuing, hawaiting,
      hprinting⟩
    have hone := fun st => (filter_length_le_one hnodup).1 (hunique st)
    refine ⟨⟨hknown, hcounts, fun n x hx => ?_, fun w hw => ?_, fun m n x y hx hy hcx hcy hst => ?_,
      fun n x hx hcurrent _ => (hstates x (hmem hx).1).1 hcurrent,
      fun n x hx hclosed => (hstates x (hmem hx).1).2.1 hclosed,
      fun n x hx hclosing _ => (hstates x (hmem hx).1).2.2 hclosing⟩,
      ⟨hqueue, fun n => ?_, hfirst, fun n => ?_⟩, hawaiting, fun n => ?_⟩
    · obtain ⟨hxs, rfl⟩ := hmem hx
      exact hheld x hxs
    · obtain ⟨x, hx, hn, hplace⟩ := howner w hw
      exact ⟨x, hn ▸ hknown x hx, hplace⟩
    · have hxy := hone y.station x (hmem hx).1 y (hmem hy).1 (by simp [hst, hcx]) (by simp [hcy])
      rw [← (hmem hx).2, ← (hmem hy).2, hxy]
    · rw [hqueued, hphase, hphase]
      simp only [and_or_left, exists_or]
    · rw [hphase]
      exact ⟨fun ⟨x, hx, hn, hst⟩ => hn ▸ (hissuing x hx).1 hst, fun h => by
        have hn : n ∈ s.voucherQueue := List.mem_of_mem_head? (hfirst ▸ h)
        obtain ⟨x, hx, rfl, -⟩ := (hqueued n).1 hn
        exact ⟨x, hx, rfl, (hissuing x hx).2 h⟩⟩
    · rw [hprinting, hphase]
  · rintro ⟨hseats, hqueue, hprint⟩
    refine ⟨⟨hseats.counts, fun x hx => hseats.held _ x (hknown x hx), fun w hw => ?_⟩,
      ⟨fun st => ?_, fun x hx => ⟨fun hcurrent => hseats.attached _ x (hknown x hx) hcurrent not_false,
        hseats.closed _ x (hknown x hx), fun hclosing => hseats.waits _ x (hknown x hx) hclosing
          not_false⟩⟩, hqueue.nodup, fun n => ?_, hqueue.first, fun x hx => ?_,
      hprint.nodup, fun n => ?_⟩
    · obtain ⟨x, hx, hplace⟩ := hseats.owner w hw
      exact ⟨x, (hmem hx).1, (hmem hx).2, hplace⟩
    · refine (filter_length_le_one hnodup).2 fun x hx y hy hpx hpy => ?_
      simp only [Bool.and_eq_true, beq_iff_eq] at hpx hpy
      exact session_unique hs.2.1 hx hy (hseats.unique _ _ x y (hknown x hx) (hknown y hy) hpx.2 hpy.2
        (hpx.1.trans hpy.1.symm))
    · rw [hqueue.queued, hphase, hphase]
      simp only [and_or_left, exists_or]
    · rw [← hqueue.issuing, State.phase?, hknown x hx]
      simp
    · rw [hprint.printing, hphase]

end Sys2Proof.Machine
end

section
/-! SUPPORT. What the changes of one session record keep of the links of the hall: a record edited in its
place, freed, opened; an item held, or no longer held. -/

namespace Sys2Proof.Machine

-- One theorem after another: many that wait for the kernel at once take threads and memory.
set_option Elab.async false

/-! ## Seats -/

/-- The seats of two states with the same records, counts and stations. -/
theorem Seated.of_same {H : List Waiting} {out : Nat → Prop} {s t : State} (h : Seated H out s)
    (hsessions : t.sessions = s.sessions) (hcounts : t.heldCounts = s.heldCounts)
    (hstations : t.stations = s.stations) : Seated H out t := by
  have hfind := State.session?_of_same hsessions
  obtain ⟨known, counts, held, owner, unique, attached, closed, waits⟩ := h
  constructor
  case known => rw [hsessions]; simpa only [hfind] using known
  case counts => rwa [hcounts]
  case attached => simpa only [hfind, State.isAttached, hstations] using attached
  all_goals simpa only [hfind]

/-- The items held are the same but for their order. -/
theorem Seated.perm {H K : List Waiting} {out : Nat → Prop} {s : State} (h : Seated H out s)
    (hperm : H.Perm K) : Seated K out s :=
  { h with
    counts := fun st => (h.counts st).trans (hperm.countP_eq _)
    held := fun n x hx => (h.held n x hx).trans (hperm.countP_eq _)
    owner := fun w hw => h.owner w (hperm.mem_iff.2 hw) }

/-- More sessions may be left out, and sessions that stand as the law asks need not be. -/
theorem Seated.out {H : List Waiting} {out out' : Nat → Prop} {s : State} (h : Seated H out s)
    (hout : ∀ n x, s.session? n = some x → x.isCurrent = true → ¬out' n → ¬out n) :
    Seated H out' s :=
  { h with
    attached := fun n x hx hcurrent hn => h.attached n x hx hcurrent (hout n x hx hcurrent hn)
    waits := fun n x hx hclosing hn =>
      h.waits n x hx hclosing (hout n x hx (by simp [Session.isCurrent, hclosing]) hn) }

theorem Seated.held_eq_zero {H : List Waiting} {out : Nat → Prop} {s : State} (h : Seated H out s)
    {n : Nat} {x : Session} (hx : s.session? n = some x) (hzero : x.held = 0) :
    ∀ w ∈ H, w.session ≠ n := by
  have hnone := (h.held n x hx).symm.trans hzero
  simpa using List.countP_eq_zero.1 hnone

/-- A record may take the place of another of its number: it is no less current unless nothing of it is
held, and it is as the law asks where the session is not left out. -/
structure Edit (s : State) (stays : Prop) (x y : Session) : Prop where
  station : y.station = x.station
  held : y.held = x.held
  current : y.isCurrent = true → x.isCurrent = true
  leaves : x.isCurrent = true → y.isCurrent = true ∨ x.held = 0
  closed : y.state ≠ .opened → y.disposition.isSome = true ∧ y.idleExpiry = none
  attached : y.isCurrent = true → stays → s.isAttached x.station = true
  waits : y.state = .closing → stays → x.held ≠ 0

theorem State.onSession_lookup (s : State) (n : Nat) {f : Session → Session}
    (hnumber : ∀ x, (f x).number = x.number) (m : Nat) :
    (s.onSession n f).session? m = if m = n then (s.session? n).map f else s.session? m := by
  split
  · next h => rw [h]; exact State.onSession_session? s n f hnumber
  · next h => exact State.onSession_session?_of_ne s f hnumber h

theorem State.onSession_known {s : State} {n : Nat} {f : Session → Session}
    (hnumber : ∀ x, (f x).number = x.number) (h : ∀ x ∈ s.sessions, s.session? x.number = some x) :
    ∀ x ∈ (s.onSession n f).sessions, (s.onSession n f).session? x.number = some x := by
  intro y hy
  rw [State.onSession_sessions, List.mem_map] at hy
  obtain ⟨x, hx, rfl⟩ := hy
  rw [State.onSession_lookup s n hnumber]
  by_cases hn : x.number = n
  · subst hn
    rw [if_pos rfl, hnumber, if_pos rfl, h x hx]
    rfl
  · rw [if_neg hn, if_neg hn]
    exact h x hx

theorem Seated.onSession {H : List Waiting} {out out' : Nat → Prop} {s : State} {n : Nat}
    {f : Session → Session} (h : Seated H out s) (hnumber : ∀ x, (f x).number = x.number)
    (hedit : ∀ x, s.session? n = some x → Edit s (¬out' n) x (f x))
    (hout : ∀ m, m ≠ n → ¬out' m → ¬out m) : Seated H out' (s.onSession n f) := by
  have hfind := State.onSession_lookup s n hnumber
  have hback : ∀ {m y}, (s.onSession n f).session? m = some y →
      ∃ x, s.session? m = some x ∧ (m ≠ n ∧ y = x ∨ m = n ∧ y = f x ∧ Edit s (¬out' n) x (f x)) := by
    intro m y hy
    rw [hfind] at hy
    split at hy
    · next hm =>
      obtain ⟨x, hx, rfl⟩ := Option.map_eq_some_iff.1 hy
      exact ⟨x, hm ▸ hx, .inr ⟨hm, rfl, hedit x hx⟩⟩
    · next hm => exact ⟨y, hy, .inl ⟨hm, rfl⟩⟩
  constructor
  case known => exact State.onSession_known hnumber h.known
  case counts => exact h.counts
  case held =>
    intro m y hy
    obtain ⟨x, hx, ⟨-, rfl⟩ | ⟨-, rfl, e⟩⟩ := hback hy
    · exact h.held m y hx
    · exact e.held.trans (h.held m x hx)
  case owner =>
    intro w hw
    obtain ⟨x, hx, hstation, hcurrent⟩ := h.owner w hw
    rw [hfind]
    by_cases hn : w.session = n
    · rw [if_pos hn, ← hn, hx]
      have e := hedit x (hn ▸ hx)
      refine ⟨f x, rfl, e.station.trans hstation, (e.leaves hcurrent).resolve_right fun hzero => ?_⟩
      exact h.held_eq_zero hx hzero w hw rfl
    · rw [if_neg hn]
      exact ⟨x, hx, hstation, hcurrent⟩
  case unique =>
    intro m k y z hy hz hcy hcz hst
    obtain ⟨x, hx, hyx⟩ := hback hy
    obtain ⟨u, hu, hzu⟩ := hback hz
    have hone : ∀ {m : Nat} {x y : Session}, (m ≠ n ∧ y = x ∨ m = n ∧ y = f x ∧
        Edit s (¬out' n) x (f x)) → y.isCurrent = true → x.isCurrent = true ∧ x.station = y.station := by
      rintro m x y (⟨-, rfl⟩ | ⟨-, rfl, e⟩) hc
      · exact ⟨hc, rfl⟩
      · exact ⟨e.current hc, e.station.symm⟩
    exact h.unique m k x u hx hu (hone hyx hcy).1 (hone hzu hcz).1
      ((hone hyx hcy).2.trans (hst.trans (hone hzu hcz).2.symm))
  case attached =>
    intro m y hy hc hm
    obtain ⟨x, hx, ⟨hne, rfl⟩ | ⟨rfl, rfl, e⟩⟩ := hback hy
    · exact h.attached m y hx hc (hout m hne hm)
    · exact (congrArg s.isAttached e.station).trans (e.attached hc hm)
  case closed =>
    intro m y hy hclosed
    obtain ⟨x, hx, ⟨-, rfl⟩ | ⟨-, rfl, e⟩⟩ := hback hy
    · exact h.closed m y hx hclosed
    · exact e.closed hclosed
  case waits =>
    intro m y hy hclosing hm
    obtain ⟨x, hx, ⟨hne, rfl⟩ | ⟨rfl, rfl, e⟩⟩ := hback hy
    · exact h.waits m y hx hclosing (hout m hne hm)
    · rw [e.held]
      exact e.waits hclosing hm

/-- Every record of `t` is one of `s`, and one is gone of which nothing is held. -/
theorem Seated.freeSession {H : List Waiting} {out out' : Nat → Prop} {s : State} {n : Nat}
    (h : Seated H out s) (hleaves : ∀ x, s.session? n = some x → x.isCurrent = true → x.held = 0)
    (hout : ∀ m, m ≠ n → ¬out' m → ¬out m) : Seated H out' (s.freeSession n) := by
  have hfind := State.freeSession_session? s n
  have hback : ∀ {m y}, (s.freeSession n).session? m = some y → m ≠ n ∧ s.session? m = some y := by
    intro m y hy
    rw [hfind] at hy
    split at hy
    · cases hy
    · next hm => exact ⟨hm, hy⟩
  constructor
  case known =>
    intro x hx
    rw [State.freeSession_sessions, List.mem_filter] at hx
    rw [hfind, if_neg (by simpa using hx.2)]
    exact h.known x hx.1
  case counts => exact h.counts
  case held => exact fun m y hy => h.held m y (hback hy).2
  case owner =>
    intro w hw
    obtain ⟨x, hx, hstation, hcurrent⟩ := h.owner w hw
    have hn : w.session ≠ n := by
      rintro rfl
      exact h.held_eq_zero hx (hleaves x hx hcurrent) w hw rfl
    exact ⟨x, by rw [hfind, if_neg hn]; exact hx, hstation, hcurrent⟩
  case unique => exact fun m k y z hy hz => h.unique m k y z (hback hy).2 (hback hz).2
  case attached =>
    exact fun m y hy hc hm => h.attached m y (hback hy).2 hc (hout m (hback hy).1 hm)
  case closed => exact fun m y hy => h.closed m y (hback hy).2
  case waits => exact fun m y hy hc hm => h.waits m y (hback hy).2 hc (hout m (hback hy).1 hm)

/-! ## Items held -/

/-- Both counts of an item's station and session change alike. -/
def State.recount (w : Waiting) (k : Nat → Nat) (s : State) : State :=
  (s.setHeld w.station (k s.heldCounts[w.station])).onSession w.session fun x =>
    { x with held := k x.held }

theorem State.recount_session? (w : Waiting) (k : Nat → Nat) (s : State) (m : Nat) :
    (s.recount w k).session? m = if m = w.session then
      (s.session? w.session).map fun x => { x with held := k x.held } else s.session? m :=
  State.onSession_lookup (s.setHeld w.station (k s.heldCounts[w.station])) w.session
    (f := fun x => { x with held := k x.held }) (fun _ => rfl) m

theorem Seated.recount {H K : List Waiting} {out : Nat → Prop} {s : State} {w : Waiting}
    {k : Nat → Nat} (h : Seated H out s)
    (hcount : ∀ p : Waiting → Bool, K.countP p = if p w = true then k (H.countP p) else H.countP p)
    (howner : ∀ v ∈ K, ∃ x, s.session? v.session = some x ∧ x.station = v.station ∧ x.isCurrent = true)
    (hwaits : ∀ x, s.session? w.session = some x → ¬out w.session → k x.held ≠ 0) :
    Seated K out (s.recount w k) := by
  have hfind := State.recount_session? w k s
  have hback : ∀ {m y}, (s.recount w k).session? m = some y → ∃ x, s.session? m = some x ∧
      y = { x with held := if m = w.session then k x.held else x.held } := by
    intro m y hy
    rw [hfind] at hy
    split at hy
    · next hm =>
      obtain ⟨x, hx, rfl⟩ := Option.map_eq_some_iff.1 hy
      exact ⟨x, hm ▸ hx, by rw [if_pos hm]⟩
    · next hm => exact ⟨y, hy, by rw [if_neg hm]⟩
  constructor
  case known => exact State.onSession_known (fun _ => rfl) h.known
  case counts =>
    intro st
    have hset : (s.recount w k).heldCounts =
      s.heldCounts.set w.station.val (k s.heldCounts[w.station]) w.station.isLt := rfl
    rw [get_of_set hset, hcount]
    simp only [beq_iff_eq]
    split
    · next hst => rw [← hst, h.counts]
    · exact h.counts st
  case held =>
    intro m y hy
    obtain ⟨x, hx, rfl⟩ := hback hy
    simp only [hcount, beq_iff_eq, eq_comm (a := m), h.held m x hx]
  case owner =>
    intro v hv
    obtain ⟨x, hx, hplace⟩ := howner v hv
    rw [hfind]
    split
    · next hvw =>
      rw [← hvw, hx]
      exact ⟨_, rfl, hplace⟩
    · exact ⟨x, hx, hplace⟩
  case unique =>
    intro m n y z hy hz
    obtain ⟨x, hx, rfl⟩ := hback hy
    obtain ⟨u, hu, rfl⟩ := hback hz
    exact h.unique m n x u hx hu
  case attached =>
    intro m y hy
    obtain ⟨x, hx, rfl⟩ := hback hy
    exact h.attached m x hx
  case closed =>
    intro m y hy
    obtain ⟨x, hx, rfl⟩ := hback hy
    exact h.closed m x hx
  case waits =>
    intro m y hy hclosing hm
    obtain ⟨x, hx, rfl⟩ := hback hy
    dsimp only
    split
    · next hmw => subst hmw; exact hwaits x hx hm
    · exact h.waits m x hx hclosing hm

/-- An item is held for a current session of its station (R25, R44). -/
theorem Seated.hold {H : List Waiting} {out : Nat → Prop} {s : State} {w : Waiting} {x : Session}
    (h : Seated H out s) (hx : s.session? w.session = some x) (hstation : x.station = w.station)
    (hcurrent : x.isCurrent = true) : Seated (w :: H) out (s.hold w) := by
  have hrecount : Seated (w :: H) out (s.recount w (· + 1)) := by
    refine h.recount (fun p => ?_) (fun v hv => ?_) fun y _ _ => Nat.succ_ne_zero _
    · rw [List.countP_cons]
      split <;> simp_all
    · rcases List.mem_cons.1 hv with rfl | hv
      · exact ⟨x, hx, hstation, hcurrent⟩
      · exact h.owner v hv
  exact hrecount.of_same rfl rfl rfl

/-- An item is no longer held, and its session may have to close (R25, R69). -/
theorem Seated.unhold {H : List Waiting} {out : Nat → Prop} {s : State} {w : Waiting}
    (h : Seated (w :: H) out s) (hout : out w.session) : Seated H out (s.unhold w) := by
  refine h.recount (k := (· - 1)) (fun p => ?_) (fun v hv => ?_) fun x _ hin => absurd hout hin
  · rw [List.countP_cons]
    split <;> simp_all
  · exact h.owner v (List.mem_cons_of_mem w hv)

/-! ## A new session and a station's state -/

/-- A station's record changes, and the sessions that stand there without it are left out. -/
theorem Seated.setStation {H : List Waiting} {out out' : Nat → Prop} {s : State} {st : Fin 8}
    {y : Station} (h : Seated H out s)
    (hhere : ∀ n x, s.session? n = some x → x.isCurrent = true → x.station = st → ¬out' n →
      y.state.attached = true)
    (hout : ∀ n, ¬out' n → ¬out n) : Seated H out' (s.setStation st y) :=
  { known := h.known
    counts := h.counts
    held := h.held
    owner := h.owner
    unique := h.unique
    closed := h.closed
    waits := fun n x hx hclosing hn => h.waits n x hx hclosing (hout n hn)
    attached := fun n x hx hcurrent hn => by
      have hset : (s.setStation st y).stations = s.stations.set st.val y st.isLt := rfl
      unfold State.isAttached
      rw [get_of_set hset]
      split
      · next hst => exact hhere n x hx hcurrent hst.symm hn
      · exact h.attached n x hx hcurrent (hout n hn) }

theorem State.openSession_session? {st : Fin 8} {s : State}
    (hfresh : s.nextSession ∉ s.sessions.map Session.number) (m : Nat) :
    (s.openSession st).session? m = if m = s.nextSession then
      some (newSession s.nextSession st s.params.sessionCap s.now) else s.session? m :=
  find?_insertSession hfresh m

theorem State.nextSession_fresh {s : State} (h : s.sessions.length < Config.maxSessions) :
    s.nextSession ∉ s.sessions.map Session.number := by
  refine freshNumber_not_mem _ _ _ ?_
  rw [List.length_map]
  exact h.trans (by decide)

theorem State.session?_eq_none_of_fresh {s : State} {n : Nat}
    (h : n ∉ s.sessions.map Session.number) : s.session? n = none := by
  simpa [State.session?] using h

/-- A session opens at an attached station that has no current session (R29, R63). -/
theorem Seated.openSession {H : List Waiting} {out : Nat → Prop} {s : State} {st : Fin 8}
    (h : Seated H out s) (hroom : s.sessions.length < Config.maxSessions)
    (hstation : s.isAttached st = true) (hnone : s.current? st = none) :
    Seated H out (s.openSession st) := by
  have hfresh := State.nextSession_fresh hroom
  have hnew := State.session?_eq_none_of_fresh hfresh
  have hfind := State.openSession_session? (st := st) hfresh
  have hback : ∀ {m y}, (s.openSession st).session? m = some y → s.session? m = some y ∨
      m = s.nextSession ∧ y = newSession s.nextSession st s.params.sessionCap s.now := by
    intro m y hy
    rw [hfind] at hy
    split at hy
    · next hm => cases hy; exact .inr ⟨hm, rfl⟩
    · exact .inl hy
  have halone : ∀ {m x}, s.session? m = some x → x.isCurrent = true → x.station ≠ st := by
    intro m x hx hcurrent hst
    have := List.find?_eq_none.1 hnone x (State.mem_of_session? hx)
    simp [hst, hcurrent] at this
  constructor
  case known =>
    intro x hx
    rw [hfind]
    rcases (mem_insertSession _ _ x).1 hx with rfl | hx
    · exact if_pos rfl
    · have hne : x.number ≠ s.nextSession := fun hn => hfresh (hn ▸ List.mem_map_of_mem hx)
      rw [if_neg hne]
      exact h.known x hx
  case counts => exact h.counts
  case held =>
    intro m y hy
    rcases hback hy with hy | ⟨rfl, rfl⟩
    · exact h.held m y hy
    · refine (List.countP_eq_zero.2 fun w hw => ?_).symm
      obtain ⟨x, hx, -⟩ := h.owner w hw
      rw [beq_iff_eq]
      intro hn
      rw [hn, hnew] at hx
      cases hx
  case owner =>
    intro w hw
    obtain ⟨x, hx, hplace⟩ := h.owner w hw
    refine ⟨x, ?_, hplace⟩
    rw [hfind, if_neg]
    · exact hx
    · intro hn
      rw [hn, hnew] at hx
      cases hx
  case unique =>
    intro m n y z hy hz hcy hcz hst
    rcases hback hy with hy | ⟨rfl, rfl⟩
    · rcases hback hz with hz | ⟨rfl, rfl⟩
      · exact h.unique m n y z hy hz hcy hcz hst
      · exact absurd hst (halone hy hcy)
    · rcases hback hz with hz | ⟨rfl, rfl⟩
      · exact absurd hst.symm (halone hz hcz)
      · rfl
  case attached =>
    intro m y hy hcurrent hm
    rcases hback hy with hy | ⟨rfl, rfl⟩
    · exact h.attached m y hy hcurrent hm
    · exact hstation
  case closed =>
    intro m y hy hclosed
    rcases hback hy with hy | ⟨rfl, rfl⟩
    · exact h.closed m y hy hclosed
    · exact absurd rfl hclosed
  case waits =>
    intro m y hy hclosing hm
    rcases hback hy with hy | ⟨rfl, rfl⟩
    · exact h.waits m y hy hclosing hm
    · cases hclosing

end Sys2Proof.Machine
end

section
/-! SUPPORT. The voucher queue and AWAIT_PRINT: what starts and ends of transfers, closes and deliveries keep of
the links of the hall (R69, R72, R73, R78 to R81). -/

namespace Sys2Proof.Machine

-- One theorem after another: many that wait for the kernel at once take threads and memory.
set_option Elab.async false

/-! ## The two laws, state by state -/

/-- The law of the voucher queue while no transfer stands: every session of it is QUEUED. -/
structure QueueRest (phase : Nat → Option SessionState) (queue : List Nat) : Prop where
  nodup : queue.Nodup
  queued : ∀ n, n ∈ queue ↔ phase n = some .queued
  issuing : ∀ n, phase n ≠ some .issuing

section
variable {phase : Nat → Option SessionState} {queue awaiting : List Nat} {n : Nat}

theorem QueueRest.idle (h : QueueRest phase []) : QueueLaw phase [] none :=
  ⟨h.nodup, fun n => by rw [h.queued]; simp [h.issuing], rfl, fun n => by simp [h.issuing]⟩

/-- The head of the queue is taken on. -/
theorem QueueRest.start (h : QueueRest phase (n :: queue)) :
    QueueLaw (Function.update phase n (some .issuing)) (n :: queue) (some n) := by
  refine ⟨h.nodup, fun m => ?_, rfl, fun m => ?_⟩
  · by_cases hm : m = n
    · simp [hm]
    · simp [h.queued, h.issuing, hm]
  · by_cases hm : m = n
    · simp [hm]
    · simp [hm, h.issuing, Ne.symm hm]

theorem QueueRest.join (h : QueueRest phase queue) (hn : phase n ≠ some .queued) :
    QueueRest (Function.update phase n (some .queued)) (queue ++ [n]) := by
  have hnew : n ∉ queue := fun hmem => hn ((h.queued n).1 hmem)
  refine ⟨List.nodup_append_comm.1 (List.nodup_cons.2 ⟨hnew, h.nodup⟩), fun m => ?_, fun m => ?_⟩
  · by_cases hm : m = n
    · simp [hm]
    · simp [hm, h.queued]
  · by_cases hm : m = n
    · simp [hm]
    · simp [hm, h.issuing]

theorem QueueLaw.rest (h : QueueLaw phase queue none) : queue = [] ∧ QueueRest phase [] := by
  have hnil : queue = [] := List.head?_eq_none_iff.1 h.first.symm
  subst hnil
  have hnone := h.issuing
  refine ⟨rfl, List.nodup_nil, fun m => ⟨fun hm => by simp at hm, fun hm => ?_⟩, fun m => by simp [hnone]⟩
  exact (h.queued m).2 (.inl hm)

/-- A session joins the queue behind a transfer. -/
theorem QueueLaw.join {k : Nat} (h : QueueLaw phase queue (some k)) (hn : n ∉ queue) :
    QueueLaw (Function.update phase n (some .queued)) (queue ++ [n]) (some k) := by
  have hk : k ∈ queue := List.mem_of_mem_head? h.first.symm
  refine ⟨List.nodup_append_comm.1 (List.nodup_cons.2 ⟨hn, h.nodup⟩), fun m => ?_, ?_, fun m => ?_⟩
  · by_cases hm : m = n
    · simp [hm]
    · simp [hm, h.queued]
  · rw [List.head?_append, ← h.first]
    rfl
  · by_cases hm : m = n
    · have hkm : k ≠ n := fun hkn => hn (hkn ▸ hk)
      simp [hm, hkm]
    · simp [hm, h.issuing]

/-- The transfer of the head ends. -/
theorem QueueLaw.finish (h : QueueLaw phase queue (some n)) {v : Option SessionState}
    (hqueued : v ≠ some .queued) (hissuing : v ≠ some .issuing) :
    QueueRest (Function.update phase n v) queue.tail := by
  obtain ⟨rest, rfl⟩ : ∃ rest, queue = n :: rest := List.head?_eq_some_iff.1 h.first.symm
  obtain ⟨hn, hrest⟩ := List.nodup_cons.1 h.nodup
  refine ⟨hrest, fun m => ?_, fun m => ?_⟩
  · by_cases hm : m = n
    · simp [hm, hn, hqueued]
    · have hm' := h.queued m
      have hissue := h.issuing m
      simp only [List.mem_cons, hm, false_or] at hm'
      simp [hm, hm', hissue, Ne.symm hm]
  · by_cases hm : m = n
    · simp [hm, hissuing]
    · simp [hm, h.issuing, Ne.symm hm]

/-- A session outside the queue changes its state, and stays outside. -/
theorem QueueLaw.outside {head : Option Nat} (h : QueueLaw phase queue head) (hn : n ∉ queue)
    {v : Option SessionState} (hqueued : v ≠ some .queued) (hissuing : v ≠ some .issuing) :
    QueueLaw (Function.update phase n v) queue head := by
  have hphase : ¬(phase n = some .queued ∨ phase n = some .issuing) := fun hp => hn ((h.queued n).2 hp)
  have hhead : head ≠ some n := fun hp => hphase (.inr ((h.issuing n).2 hp))
  refine ⟨h.nodup, fun m => ?_, h.first, fun m => ?_⟩
  · by_cases hm : m = n
    · simp [hm, hn, hqueued, hissuing]
    · simp [hm, h.queued]
  · by_cases hm : m = n
    · simp [hm, hissuing, hhead]
    · simp [hm, h.issuing]

theorem PrintLaw.outside (h : PrintLaw phase awaiting) (hn : phase n ≠ some .awaitPrint)
    {v : Option SessionState} (hv : v ≠ some .awaitPrint) :
    PrintLaw (Function.update phase n v) awaiting := by
  refine ⟨h.nodup, fun m => ?_⟩
  by_cases hm : m = n
  · simp [hm, h.printing, hn, hv]
  · simp [hm, h.printing]

theorem PrintLaw.freed (h : PrintLaw phase awaiting) (n : Nat) :
    PrintLaw (Function.update phase n none) (awaiting.filter (· != n)) := by
  refine ⟨h.nodup.filter _, fun m => ?_⟩
  by_cases hm : m = n
  · simp [hm]
  · simp [hm, h.printing]

theorem PrintLaw.join (h : PrintLaw phase awaiting) (hn : phase n ≠ some .awaitPrint) :
    PrintLaw (Function.update phase n (some .awaitPrint)) (awaiting ++ [n]) := by
  have hnew : n ∉ awaiting := fun hmem => hn ((h.printing n).1 hmem)
  refine ⟨List.nodup_append_comm.1 (List.nodup_cons.2 ⟨hnew, h.nodup⟩), fun m => ?_⟩
  by_cases hm : m = n
  · simp [hm]
  · simp [hm, h.printing]

end

/-! ## States of the sessions after a change of one record -/

theorem State.phase?_of_same {s t : State} (h : t.sessions = s.sessions) : t.phase? = s.phase? := by
  funext n
  rw [State.phase?, State.session?_of_same h]
  rfl

theorem State.phase?_eq {s : State} {n : Nat} {x : Session} (h : s.session? n = some x) :
    s.phase? n = some x.state := by rw [State.phase?, h]; rfl

theorem State.onSession_phase {s : State} {n : Nat} {f : Session → Session} {x : Session}
    (hnumber : ∀ x, (f x).number = x.number) (hx : s.session? n = some x) :
    (s.onSession n f).phase? = Function.update s.phase? n (some (f x).state) := by
  funext m
  rw [State.phase?, State.onSession_lookup s n hnumber, Function.update_apply]
  split
  · rw [hx]; rfl
  · rfl

theorem State.freeSession_phase (s : State) (n : Nat) :
    (s.freeSession n).phase? = Function.update s.phase? n none := by
  funext m
  rw [State.phase?, State.freeSession_session?, Function.update_apply]
  split <;> rfl

/-! ## The links -/

theorem Linked.of_same {H : List Waiting} {out : Nat → Prop} {s t : State} (h : Linked H out s)
    (hsessions : t.sessions = s.sessions) (hcounts : t.heldCounts = s.heldCounts)
    (hstations : t.stations = s.stations) (hqueue : t.voucherQueue = s.voucherQueue)
    (hhead : t.transfer.session? = s.transfer.session?) (hawaiting : t.awaiting = s.awaiting) :
    Linked H out t := by
  obtain ⟨seats, queue, print⟩ := h
  refine ⟨seats.of_same hsessions hcounts hstations, ?_, ?_⟩
  · rwa [State.phase?_of_same hsessions, hqueue, hhead]
  · rwa [State.phase?_of_same hsessions, hawaiting]

theorem Linked.perm {H K : List Waiting} {out : Nat → Prop} {s : State} (h : Linked H out s)
    (hperm : H.Perm K) : Linked K out s := ⟨h.seats.perm hperm, h.queue, h.print⟩

theorem Linked.out {H : List Waiting} {out out' : Nat → Prop} {s : State} (h : Linked H out s)
    (hout : ∀ n x, s.session? n = some x → x.isCurrent = true → ¬out' n → ¬out n) :
    Linked H out' s := ⟨h.seats.out hout, h.queue, h.print⟩

/-- A session that is neither in the queue nor in AWAIT_PRINT. -/
theorem Linked.not_queued {H : List Waiting} {out : Nat → Prop} {s : State} (h : Linked H out s)
    {n : Nat} {x : Session} (hx : s.session? n = some x) (hcurrent : x.isCurrent = true) :
    n ∉ s.voucherQueue ∧ s.phase? n ≠ some .awaitPrint := by
  rw [h.queue.queued, State.phase?_eq hx]
  simp only [Session.isCurrent, Bool.or_eq_true, beq_iff_eq] at hcurrent
  rcases hcurrent with hst | hst <;> simp [hst]

end Sys2Proof.Machine
end

section
/-! SUPPORT. The moves of sessions through the hall keep its links: bookkeeping, deliveries, starts and ends of
transfers, and closes (R68, R69, R72, R80, R81, R86). -/

namespace Sys2Proof.Machine

-- One theorem after another: many that wait for the kernel at once take threads and memory.
set_option Elab.async false

/-! ## Bookkeeping in a record -/

/-- Two records of one session in one state, with the same items held. -/
structure SameSeat (x y : Session) : Prop where
  number : y.number = x.number := by rfl
  station : y.station = x.station := by rfl
  state : y.state = x.state := by rfl
  held : y.held = x.held := by rfl

theorem SameSeat.current {x y : Session} (h : SameSeat x y) : y.isCurrent = x.isCurrent := by
  rw [Session.isCurrent, h.state]; rfl

/-- Changes of a record that neither its seat nor its close depends on. -/
theorem Linked.onSession {H : List Waiting} {out : Nat → Prop} {s : State} {n : Nat}
    {f : Session → Session} (h : Linked H out s) (hseat : ∀ x, SameSeat x (f x))
    (hclosed : ∀ x, s.session? n = some x → x.state ≠ .opened →
      (f x).disposition = x.disposition ∧ (f x).idleExpiry = x.idleExpiry) :
    Linked H out (s.onSession n f) := by
  obtain ⟨seats, queue, print⟩ := h
  have hnumber := fun x => (hseat x).number
  have hphase : (s.onSession n f).phase? = s.phase? := by
    funext m
    unfold State.phase?
    rw [State.onSession_lookup s n hnumber]
    split
    · next hm =>
      rw [hm]
      cases s.session? n with
      | none => rfl
      | some x => exact congrArg some (hseat x).state
    · rfl
  refine ⟨seats.onSession hnumber (fun x hx => ?_) fun _ _ => id, by rwa [hphase], by rwa [hphase]⟩
  have e := hseat x
  constructor
  case station => exact e.station
  case held => exact e.held
  case current => exact fun hc => e.current ▸ hc
  case leaves => exact fun hc => .inl (e.current.trans hc)
  case closed =>
    intro hstate
    rw [e.state] at hstate
    rw [(hclosed x hx hstate).1, (hclosed x hx hstate).2]
    exact seats.closed n x hx hstate
  case attached => exact fun hc hn => seats.attached n x hx (e.current ▸ hc) hn
  case waits => exact fun hc hn => seats.waits n x hx (e.state ▸ hc) hn

/-- A record that has left its seat, nothing of it being held. -/
theorem Edit.left {s : State} {stays : Prop} {x y : Session} (hstation : y.station = x.station)
    (hheld : y.held = x.held) (hy : y.isCurrent = false) (hfree : x.isCurrent = true → x.held = 0)
    (hclosed : y.disposition.isSome = true ∧ y.idleExpiry = none) : Edit s stays x y where
  station := hstation
  held := hheld
  current := fun hc => absurd (hy.symm.trans hc) Bool.false_ne_true
  leaves := fun hc => .inr (hfree hc)
  closed := fun _ => hclosed
  attached := fun hc => absurd (hy.symm.trans hc) Bool.false_ne_true
  waits := fun hc => by simp [Session.isCurrent, hc] at hy

/-! ## Deliveries (R72) -/

/-- Session `n` has left its seat: its record is freed, or waits in AWAIT_PRINT. -/
structure Leaves (n : Nat) (s t : State) : Prop where
  records : t.sessions = (s.freeSession n).sessions ∧ t.awaiting = s.awaiting.filter (· != n) ∨
    t.sessions = (s.onSession n fun x => { x with state := .awaitPrint }).sessions ∧
      t.awaiting = s.awaiting ++ [n]
  counts : t.heldCounts = s.heldCounts
  stations : t.stations = s.stations
  queue : t.voucherQueue = s.voucherQueue
  transfer : t.transfer = s.transfer

theorem State.deliver_leaves {s : State} {n : Nat} {x : Session} (hx : s.session? n = some x) :
    Leaves n s (s.deliver n) := by
  unfold State.deliver
  rw [hx]
  dsimp only
  split
  · have hn := State.session?_number hx
    unfold State.sendResult
    rw [hn]
    exact ⟨.inl ⟨rfl, rfl⟩, rfl, rfl, rfl, rfl⟩
  · exact ⟨.inr ⟨rfl, rfl⟩, rfl, rfl, rfl, rfl⟩

theorem Leaves.phase {n : Nat} {s t : State} {x : Session} (h : Leaves n s t)
    (hx : s.session? n = some x) :
    ∃ v, v ≠ some .queued ∧ v ≠ some .issuing ∧ t.phase? = Function.update s.phase? n v := by
  rcases h.records with ⟨hsessions, -⟩ | ⟨hsessions, -⟩
  · exact ⟨none, by simp, by simp,
      (State.phase?_of_same hsessions).trans (State.freeSession_phase s n)⟩
  · exact ⟨some .awaitPrint, by simp, by simp,
      (State.phase?_of_same hsessions).trans (State.onSession_phase (fun _ => rfl) hx)⟩

theorem Leaves.seated {H : List Waiting} {out out' : Nat → Prop} {n : Nat} {s t : State} {x : Session}
    (h : Leaves n s t) (hs : Seated H out s) (hx : s.session? n = some x)
    (hfree : x.isCurrent = true → x.held = 0)
    (hdecided : x.disposition.isSome = true ∧ x.idleExpiry = none)
    (hout : ∀ m, m ≠ n → ¬out' m → ¬out m) : Seated H out' t := by
  have hone : ∀ y, s.session? n = some y → y = x := fun y hy => Option.some.inj (hy.symm.trans hx)
  rcases h.records with ⟨hsessions, -⟩ | ⟨hsessions, -⟩
  · refine Seated.of_same (s := s.freeSession n) ?_ hsessions h.counts h.stations
    exact hs.freeSession (fun y hy => hone y hy ▸ hfree) hout
  · refine Seated.of_same (s := s.onSession n fun x => { x with state := .awaitPrint }) ?_ hsessions
      h.counts h.stations
    refine hs.onSession (fun _ => rfl) (fun y hy => ?_) hout
    rw [hone y hy]
    exact .left rfl rfl rfl hfree hdecided

theorem Leaves.print {n : Nat} {s t : State} {x : Session} (h : Leaves n s t)
    (hs : PrintLaw s.phase? s.awaiting) (hx : s.session? n = some x) (hst : x.state ≠ .awaitPrint) :
    PrintLaw t.phase? t.awaiting := by
  rcases h.records with ⟨hsessions, hawaiting⟩ | ⟨hsessions, hawaiting⟩
  · rw [State.phase?_of_same hsessions, State.freeSession_phase, hawaiting]
    exact hs.freed n
  · rw [State.phase?_of_same hsessions, hawaiting, State.onSession_phase
      (f := fun x => { x with state := .awaitPrint }) (fun _ => rfl) hx]
    refine hs.join ?_
    rw [State.phase?_eq hx]
    simpa using hst

/-! ## Starts of transfers (R80, R81) -/

/-- REQUEST begins for a session: it is ISSUING and in the transfer. -/
theorem State.beginRequest_eq {s : State} {n : Nat} {x : Session} (hx : s.session? n = some x) :
    (s.beginRequest n).sessions = (s.onSession n fun x =>
      { x with state := .issuing, issueTag := some (nextNumber 65535 s.tagCounter) }).sessions ∧
    (s.beginRequest n).transfer.session? = some n ∧
    (s.beginRequest n).heldCounts = s.heldCounts ∧ (s.beginRequest n).stations = s.stations ∧
    (s.beginRequest n).voucherQueue = s.voucherQueue ∧ (s.beginRequest n).awaiting = s.awaiting := by
  have hfound := (State.onSession_session? { s with tagCounter := nextNumber 65535 s.tagCounter } n
    (fun x => { x with state := .issuing, issueTag := some (nextNumber 65535 s.tagCounter) })
    fun _ => rfl).trans (congrArg (Option.map _) hx)
  unfold State.beginRequest State.enterRequest
  dsimp only
  rw [hfound]
  exact ⟨rfl, rfl, rfl, rfl, rfl, rfl⟩

/-- A session of the queue becomes ISSUING; its seat was left before. -/
theorem Seated.issue {H : List Waiting} {out : Nat → Prop} {s : State} {n : Nat} {x : Session}
    (h : Seated H out s) (hx : s.session? n = some x)
    (hst : x.state = .queued ∨ x.state = .issuing) (tag : Option Nat) :
    Seated H out (s.onSession n fun x => { x with state := .issuing, issueTag := tag }) := by
  refine h.onSession (fun _ => rfl) (fun y hy => ?_) fun _ _ => id
  obtain rfl : y = x := Option.some.inj (hy.symm.trans hx)
  have hopen : y.state ≠ .opened := by rcases hst with hst | hst <;> simp [hst]
  have hnot : y.isCurrent ≠ true := by rcases hst with hst | hst <;> simp [Session.isCurrent, hst]
  exact .left rfl rfl rfl (fun hc => absurd hc hnot) (h.closed n y hy hopen)

theorem State.beginRequest_linked {H : List Waiting} {out : Nat → Prop} {s : State} {n : Nat}
    {x : Session} (hx : s.session? n = some x) (hst : x.state = .queued ∨ x.state = .issuing)
    (hs : Seated H out s) (hprint : PrintLaw s.phase? s.awaiting)
    (hqueue : QueueLaw (Function.update s.phase? n (some .issuing)) s.voucherQueue (some n)) :
    Linked H out (s.beginRequest n) := by
  obtain ⟨hsessions, htransfer, hcounts, hstations, hq, hawaiting⟩ := State.beginRequest_eq hx
  have hphase : (s.beginRequest n).phase? = Function.update s.phase? n (some .issuing) :=
    (State.phase?_of_same hsessions).trans (State.onSession_phase (fun _ => rfl) hx)
  refine ⟨(hs.issue hx hst _).of_same hsessions hcounts hstations, ?_, ?_⟩
  · rw [hphase, hq, htransfer]
    exact hqueue
  · rw [hphase, hawaiting]
    refine hprint.outside ?_ (by simp)
    rw [State.phase?_eq hx]
    rcases hst with hst | hst <;> simp [hst]

/-- With no transfer standing, the head of the queue is taken on. -/
theorem State.startTransfer_linked {H : List Waiting} {out : Nat → Prop} {s : State}
    (hidle : s.transfer = .idle) (hs : Seated H out s) (hprint : PrintLaw s.phase? s.awaiting)
    (hqueue : QueueRest s.phase? s.voucherQueue) : Linked H out s.startTransfer := by
  unfold State.startTransfer
  rw [hidle]
  cases hq : s.voucherQueue with
  | nil =>
    refine ⟨hs, ?_, hprint⟩
    rw [hq] at hqueue ⊢
    rw [hidle]
    exact hqueue.idle
  | cons n rest =>
    have hn := (hqueue.queued n).1 (by simp [hq])
    obtain ⟨x, hx, hst⟩ := Option.map_eq_some_iff.1 hn
    refine State.beginRequest_linked hx (.inl hst) hs hprint ?_
    rw [hq] at hqueue ⊢
    exact hqueue.start

end Sys2Proof.Machine
end

section
/-! SUPPORT. Closes, ends of transfers and ends of held items keep the links of the hall (R44, R68, R69, R86,
R91). -/

namespace Sys2Proof.Machine

-- One theorem after another: many that wait for the kernel at once take threads and memory.
set_option Elab.async false

theorem State.onSession_found {s : State} {n : Nat} {f : Session → Session} {x : Session}
    (hnumber : ∀ x, (f x).number = x.number) (hx : s.session? n = some x) :
    (s.onSession n f).session? n = some (f x) := by
  rw [State.onSession_session? s n f hnumber, hx]
  rfl

/-! ## Closes (R68, R69) -/

/-- A current session of which nothing is held is delivered. -/
theorem Linked.deliver {H : List Waiting} {out out' : Nat → Prop} {s : State} {n : Nat} {x : Session}
    (h : Linked H out s) (hx : s.session? n = some x) (hst : x.state = .closing) (hheld : x.held = 0)
    (hout : ∀ m, m ≠ n → ¬out' m → ¬out m) : Linked H out' (s.deliver n) := by
  obtain ⟨seats, queue, print⟩ := h
  have hleaves := State.deliver_leaves hx
  have hnot := Linked.not_queued ⟨seats, queue, print⟩ hx (by simp [Session.isCurrent, hst])
  obtain ⟨v, hqueued, hissuing, hphase⟩ := hleaves.phase hx
  refine ⟨hleaves.seated seats hx (fun _ => hheld) (seats.closed n x hx (by simp [hst])) hout, ?_,
    hleaves.print print hx (by simp [hst])⟩
  rw [hphase, hleaves.queue, hleaves.transfer]
  exact queue.outside hnot.1 hqueued hissuing

theorem Transfer.eq_idle {t : Transfer} (h : t.session? = none) : t = .idle := by
  cases t with
  | idle => rfl
  | running p n tag e l => cases h
  | stopped p c n tag => cases h

/-- A transfer that stands is not started again (R81). -/
theorem State.startTransfer_busy {s : State} {k : Nat} (h : s.transfer.session? = some k) :
    s.startTransfer = s := by
  unfold State.startTransfer
  split
  · next hidle _ =>
    rw [hidle] at h
    cases h
  · rfl

/-- A session in CLOSING joins the voucher queue, and a transfer starts where none stands. -/
theorem Linked.enqueue {H : List Waiting} {out out' : Nat → Prop} {s : State} {n : Nat} {x : Session}
    (h : Linked H out s) (hx : s.session? n = some x) (hst : x.state = .closing) (hheld : x.held = 0)
    (hout : ∀ m, m ≠ n → ¬out' m → ¬out m) :
    Linked H out' { s.onSession n fun x => { x with state := .queued } with
      voucherQueue := s.voucherQueue ++ [n] }.startTransfer := by
  have hnot := h.not_queued hx (by simp [Session.isCurrent, hst])
  obtain ⟨seats, queue, print⟩ := h
  have hphase := State.onSession_phase (f := fun x => { x with state := .queued }) (fun _ => rfl) hx
  have hseats : Seated H out' (s.onSession n fun x => { x with state := .queued }) := by
    refine seats.onSession (fun _ => rfl) (fun y hy => ?_) hout
    obtain rfl : y = x := Option.some.inj (hy.symm.trans hx)
    exact .left rfl rfl rfl (fun _ => hheld) (seats.closed n y hx (by simp [hst]))
  have hprint : PrintLaw (s.onSession n fun x => { x with state := .queued }).phase? s.awaiting := by
    rw [hphase]
    exact print.outside hnot.2 (by simp)
  cases hhead : s.transfer.session? with
  | none =>
    rw [hhead] at queue
    obtain ⟨hnil, hrest⟩ := queue.rest
    refine State.startTransfer_linked (Transfer.eq_idle hhead) (hseats.of_same rfl rfl rfl) hprint ?_
    show QueueRest (s.onSession n _).phase? (s.voucherQueue ++ [n])
    rw [hphase, hnil]
    exact hrest.join (by rw [State.phase?_eq hx, hst]; simp)
  | some k =>
    rw [State.startTransfer_busy (s := { s.onSession n _ with voucherQueue := _ }) hhead]
    refine ⟨hseats.of_same rfl rfl rfl, ?_, hprint⟩
    show QueueLaw (s.onSession n _).phase? (s.voucherQueue ++ [n]) s.transfer.session?
    rw [hhead] at queue ⊢
    rw [hphase]
    exact queue.join hnot.1

theorem State.completeClose_linked {H : List Waiting} {out out' : Nat → Prop} {s : State} {n : Nat}
    {x : Session} (h : Linked H out s) (hx : s.session? n = some x) (hst : x.state = .closing)
    (hheld : x.held = 0) (hout : ∀ m, m ≠ n → ¬out' m → ¬out m) : Linked H out' (s.completeClose n) := by
  have hdecided : ∀ o, Linked H out (s.onSession n fun x => { x with outcome := o }) ∧
      (s.onSession n fun x => { x with outcome := o }).session? n = some { x with outcome := o } :=
    fun o => ⟨h.onSession (fun _ => {}) fun _ _ _ => ⟨rfl, rfl⟩,
      State.onSession_found (f := fun x => { x with outcome := o }) (fun _ => rfl) hx⟩
  unfold State.completeClose
  rw [hx]
  dsimp only
  split
  · obtain ⟨hlinked, hfound⟩ := hdecided (some .nothing)
    exact hlinked.deliver hfound hst hheld hout
  · split
    · obtain ⟨hlinked, hfound⟩ := hdecided (some .donated)
      exact Linked.deliver (hlinked.of_same rfl rfl rfl rfl rfl rfl) hfound hst hheld hout
    all_goals exact h.enqueue hx hst hheld hout

/-- A session is settled: it is as the law asks, or its close completes (R69). -/
theorem State.settle_linked {H : List Waiting} {out out' : Nat → Prop} {s : State} {n : Nat}
    (h : Linked H out s) (hout : ∀ m, m ≠ n → ¬out' m → ¬out m)
    (hstays : ∀ x, s.session? n = some x → x.isCurrent = true →
      x.state = .closing ∧ x.held = 0 ∨ s.isAttached x.station = true) :
    Linked H out' (s.settle n) := by
  have hstay (hwaits : ∀ x, s.session? n = some x → ¬(x.state = .closing ∧ x.held = 0)) :
      Linked H out' s := by
    refine ⟨{ h.seats with attached := fun m x hx hc hm => ?_, waits := fun m x hx hc hm => ?_ },
      h.queue, h.print⟩
    · by_cases hmn : m = n
      · subst hmn
        exact (hstays x hx hc).resolve_left (hwaits x hx)
      · exact h.seats.attached m x hx hc (hout m hmn hm)
    · by_cases hmn : m = n
      · subst hmn
        exact fun hzero => hwaits x hx ⟨hc, hzero⟩
      · exact h.seats.waits m x hx hc (hout m hmn hm)
  unfold State.settle
  split
  · next x hx =>
    split
    · next hready => exact State.completeClose_linked h hx hready.1 hready.2 hout
    · next hwaits =>
      exact hstay fun y hy => Option.some.inj (hy.symm.trans hx) ▸ hwaits
  · next hnone => exact hstay fun y hy => by rw [hnone] at hy; cases hy

/-- An OPEN session is closed, its station being attached or nothing of it being held (R68). -/
theorem State.closeSession_linked {H : List Waiting} {out out' : Nat → Prop} {s : State} {n : Nat}
    {x : Session} (d : Disposition) (h : Linked H out s) (hx : s.session? n = some x)
    (hst : x.state = .opened) (hout : ∀ m, m ≠ n → ¬out' m → ¬out m)
    (hstays : x.held = 0 ∨ s.isAttached x.station = true) : Linked H out' (s.closeSession n d) := by
  have hfound := State.onSession_found (f := fun x =>
    { x with state := .closing, disposition := some d, idleExpiry := none }) (fun _ => rfl) hx
  have hphase := State.onSession_phase (f := fun x =>
    { x with state := .closing, disposition := some d, idleExpiry := none }) (fun _ => rfl) hx
  have hnot := h.not_queued hx (by simp [Session.isCurrent, hst])
  have hclosing : Linked H (fun m => out m ∨ m = n) (s.onSession n fun x =>
      { x with state := .closing, disposition := some d, idleExpiry := none }) := by
    refine ⟨h.seats.onSession (fun _ => rfl) (fun y hy => ?_) fun m _ hm => fun ho => hm (.inl ho), ?_, ?_⟩
    · obtain rfl : y = x := Option.some.inj (hy.symm.trans hx)
      exact ⟨rfl, rfl, fun _ => by simp [Session.isCurrent, hst], fun _ => .inl rfl,
        fun _ => ⟨rfl, rfl⟩, fun _ hin => absurd (.inr rfl) hin, fun _ hin => absurd (.inr rfl) hin⟩
    · rw [hphase]
      exact h.queue.outside hnot.1 (by simp) (by simp)
    · rw [hphase]
      exact h.print.outside hnot.2 (by simp)
  refine State.settle_linked hclosing (fun m hm hm' ho => ?_) fun y hy _ => ?_
  · exact ho.elim (hout m hm hm') hm
  · obtain rfl := Option.some.inj (hfound.symm.trans hy)
    exact hstays.imp (fun hzero => ⟨rfl, hzero⟩) id

/-! ## Ends of held items (R44) -/

theorem State.recount_phase (w : Waiting) (k : Nat → Nat) (s : State) :
    (s.recount w k).phase? = s.phase? := by
  funext m
  unfold State.phase?
  rw [State.recount_session?]
  split
  · next hm =>
    rw [hm]
    cases s.session? w.session <;> rfl
  · rfl

theorem Linked.hold {H : List Waiting} {out : Nat → Prop} {s : State} {w : Waiting} {x : Session}
    (h : Linked H out s) (hx : s.session? w.session = some x) (hstation : x.station = w.station)
    (hcurrent : x.isCurrent = true) : Linked (w :: H) out (s.hold w) := by
  have hphase : (s.hold w).phase? = s.phase? :=
    (State.phase?_of_same rfl).trans (State.recount_phase w (· + 1) s)
  refine ⟨h.seats.hold hx hstation hcurrent, ?_, ?_⟩
  · rw [hphase]; exact h.queue
  · rw [hphase]; exact h.print

theorem Linked.unhold {H : List Waiting} {out : Nat → Prop} {s : State} {w : Waiting}
    (h : Linked (w :: H) out s) (hout : out w.session) : Linked H out (s.unhold w) := by
  have hphase : (s.unhold w).phase? = s.phase? := State.recount_phase w (· - 1) s
  refine ⟨h.seats.unhold hout, ?_, ?_⟩
  · rw [hphase]; exact h.queue
  · rw [hphase]; exact h.print

/-- Every session of the law is attached, whatever item of it is no longer held. -/
theorem Linked.settle_unhold {H : List Waiting} {s t : State} {w : Waiting}
    (h : Linked (w :: H) noSession s) (ht : Linked H (· = w.session) t)
    (hsame : ∀ x, t.session? w.session = some x → ∃ y, s.session? w.session = some y ∧
      x.station = y.station ∧ x.isCurrent = y.isCurrent) (hstations : t.stations = s.stations) :
    Linked H noSession (t.settle w.session) := by
  refine State.settle_linked ht (fun m hm _ => hm) fun x hx hcurrent => .inr ?_
  obtain ⟨y, hy, hstation, hc⟩ := hsame x hx
  have hattached := h.seats.attached _ y hy (hc ▸ hcurrent) not_false
  rw [State.isAttached, hstations]
  rw [← hstation] at hattached
  exact hattached

theorem State.releaseItem_linked {H : List Waiting} {s : State} {w : Waiting}
    (h : Linked (w :: H) noSession s) : Linked H noSession (s.releaseItem w) := by
  have hunheld : Linked H (· = w.session) (s.unhold w) :=
    (h.out (out' := (· = w.session)) fun _ _ _ _ _ => not_false).unhold rfl
  refine h.settle_unhold hunheld (fun x hx => ?_) rfl
  have hfind := (State.recount_session? w (· - 1) s w.session).symm.trans hx
  rw [if_pos rfl] at hfind
  obtain ⟨y, hy, rfl⟩ := Option.map_eq_some_iff.1 hfind
  exact ⟨y, hy, rfl, rfl⟩

/-- Verdicts that keep the links, whatever items are held, keep them while a list of items ends. -/
theorem State.endItems_linked {verdict : Waiting → State → State}
    (hv : ∀ w t H, Linked H noSession t → Linked H noSession (verdict w t)) {ws H : List Waiting}
    {s : State} (h : Linked (ws ++ H) noSession s) : Linked H noSession (s.endItems verdict ws) := by
  induction ws generalizing s with
  | nil => exact h
  | cons w ws ih => exact ih (State.releaseItem_linked (hv w s _ h))

/-! ## Ends of transfers (R86, R91) -/

theorem State.endTransfer_linked {H : List Waiting} {out : Nat → Prop} {s : State} {n : Nat}
    {f : Session → Session} (g : Totals → Totals) (h : Linked H out s)
    (htransfer : s.transfer.session? = some n) (hseat : ∀ x, SameSeat x (f x))
    (hclosed : ∀ x, (f x).disposition = x.disposition ∧ (f x).idleExpiry = x.idleExpiry) :
    Linked H out (s.endTransfer n f g) := by
  obtain ⟨seats, queue, print⟩ : Linked H out ((s.onSession n f).onTotals g) :=
    (h.onSession hseat fun x _ _ => hclosed x).of_same rfl rfl rfl rfl rfl rfl
  have hhead : ((s.onSession n f).onTotals g).transfer.session? = some n := htransfer
  obtain ⟨x, hx, hst⟩ := Option.map_eq_some_iff.1 ((queue.issuing n).2 hhead)
  rw [hhead] at queue
  have hleaves := State.deliver_leaves hx
  have hcurrent : x.isCurrent ≠ true := by simp [Session.isCurrent, hst]
  obtain ⟨v, hqueued, hissuing, hphase⟩ := hleaves.phase hx
  have hseats : Seated H out (((s.onSession n f).onTotals g).deliver n) :=
    hleaves.seated seats hx (fun hc => absurd hc hcurrent) (seats.closed n x hx (by simp [hst]))
      fun _ _ => id
  have hrest := queue.finish hqueued hissuing
  rw [← hphase, ← hleaves.queue] at hrest
  exact State.startTransfer_linked rfl (hseats.of_same rfl rfl rfl)
    (hleaves.print print hx (by simp [hst])) hrest

end Sys2Proof.Machine
end

section
/-! SUPPORT. The law of the Referral List, and what its changes leave of it: records freed, items taken out, a
record made, an item joined (R48 to R51, R57). -/

namespace Sys2Proof.Machine

-- One theorem after another: many that wait for the kernel at once take threads and memory.
set_option Elab.async false

/-! ## The law and the items of a list of records -/

/-- The waiting items of a list of records. -/
def itemsOf (rs : List Referral) : List Waiting := rs.flatMap Referral.waiting

/-- Station and sequence of a waiting item, by which a station names it (R28). -/
def Waiting.key (w : Waiting) : Fin 8 × Nat := (w.station, w.report.seq)

/-- The article numbers of the MISS records. -/
def missArticles (rs : List Referral) : List Nat :=
  (rs.filter fun r => r.kind == .miss).map Referral.article

/-- The law of the Referral List, of the list alone. -/
structure RecordsOk (rs : List Referral) : Prop where
  records : rs.length ≤ Config.maxReferrals
  items : (itemsOf rs).length ≤ Config.maxWaiting
  numbers : (rs.map Referral.number).Pairwise (· < ·)
  someItem : ∀ r ∈ rs, r.waiting ≠ []
  oneItem : ∀ r ∈ rs, r.kind ≠ .miss → r.waiting.length = 1
  keys : ((itemsOf rs).map Waiting.key).Nodup
  articles : (missArticles rs).Nodup

theorem referralsOk_iff (s : State) : ReferralsOk s ↔ RecordsOk s.referrals :=
  ⟨fun ⟨h1, h2, h3, h4, h5, h6, h7⟩ => ⟨h1, h2, h3, h4, h5, h6, h7⟩,
    fun ⟨h1, h2, h3, h4, h5, h6, h7⟩ => ⟨h1, h2, h3, h4, h5, h6, h7⟩⟩

theorem State.waitingItems_eq (s : State) : s.waitingItems = itemsOf s.referrals := rfl

/-! ## Records and items that go -/

theorem itemsOf_sublist {rs xs : List Referral} (h : xs.Sublist rs) :
    (itemsOf xs).Sublist (itemsOf rs) := h.flatMap _

theorem RecordsOk.sublist {rs xs : List Referral} (hrs : RecordsOk rs) (h : xs.Sublist rs) :
    RecordsOk xs where
  records := h.length_le.trans hrs.records
  items := (itemsOf_sublist h).length_le.trans hrs.items
  numbers := hrs.numbers.sublist (h.map _)
  someItem := fun r hr => hrs.someItem r (h.subset hr)
  oneItem := fun r hr => hrs.oneItem r (h.subset hr)
  keys := hrs.keys.sublist ((itemsOf_sublist h).map _)
  articles := hrs.articles.sublist ((h.filter _).map _)

/-- The records that are left when some items have been taken out. -/
def withoutItems (gone : Waiting → Bool) (rs : List Referral) : List Referral :=
  (rs.map (Referral.without gone)).filter fun r => !r.waiting.isEmpty

theorem itemsOf_withoutItems (gone : Waiting → Bool) (rs : List Referral) :
    itemsOf (withoutItems gone rs) = (itemsOf rs).filter fun w => !gone w := by
  induction rs with
  | nil => rfl
  | cons r rs ih =>
    unfold withoutItems itemsOf at *
    rw [List.map_cons, List.filter_cons, List.flatMap_cons, List.filter_append, ← ih]
    split
    · rw [List.flatMap_cons]
      rfl
    · next hempty =>
      have hnil : r.waiting.filter (fun w => !gone w) = [] := by
        simpa [Referral.without] using hempty
      rw [hnil]
      rfl

theorem RecordsOk.withoutItems {rs : List Referral} (h : RecordsOk rs) (gone : Waiting → Bool) :
    RecordsOk (withoutItems gone rs) := by
  have hsub : (Machine.withoutItems gone rs).Sublist (rs.map (Referral.without gone)) :=
    List.filter_sublist
  have hnumbers : (rs.map (Referral.without gone)).map Referral.number = rs.map Referral.number := by
    rw [List.map_map]; rfl
  have harticles : missArticles (rs.map (Referral.without gone)) = missArticles rs := by
    unfold missArticles
    rw [List.filter_map, List.map_map]
    rfl
  have hitems := itemsOf_withoutItems gone rs
  constructor
  case records => simpa using hsub.length_le.trans_eq (List.length_map _) |>.trans h.records
  case items =>
    rw [hitems]
    exact (List.length_filter_le _ _).trans h.items
  case numbers => exact (hnumbers ▸ h.numbers).sublist (hsub.map _)
  case someItem =>
    intro r hr
    simpa using (List.mem_filter.1 hr).2
  case oneItem =>
    intro r hr hkind
    obtain ⟨hr, hsome⟩ := List.mem_filter.1 hr
    obtain ⟨x, hx, rfl⟩ := List.mem_map.1 hr
    have hone := h.oneItem x hx hkind
    have hle : (x.without gone).waiting.length ≤ x.waiting.length := List.length_filter_le _ _
    have hpos : 0 < (x.without gone).waiting.length := by
      rw [List.length_pos_iff]
      simpa using hsome
    omega
  case keys =>
    rw [hitems]
    exact h.keys.sublist (List.filter_sublist.map _)
  case articles =>
    exact (harticles ▸ h.articles).sublist ((hsub.filter _).map _)

/-- The items of a record and those of the other records are all items. -/
theorem itemsOf_perm_of_mem {rs : List Referral} (h : (rs.map Referral.number).Pairwise (· < ·))
    {r : Referral} (hr : r ∈ rs) :
    (itemsOf rs).Perm (r.waiting ++ itemsOf (rs.filter (·.number != r.number))) := by
  have hsame : ∀ x ∈ rs, (x.number != r.number) = (x != r) := fun x hx => by
    by_cases hn : x.number = r.number
    · have hxr : x = r := List.inj_on_of_nodup_map (h.imp Nat.ne_of_lt) hx hr hn
      rw [hxr, bne_self_eq_false, bne_self_eq_false]
    · have hxr : x ≠ r := fun hxr => hn (hxr ▸ rfl)
      rw [bne_iff_ne.2 hn, bne_iff_ne.2 hxr]
  have hnodup : rs.Nodup := List.Nodup.of_map Referral.number (h.imp Nat.ne_of_lt)
  rw [List.filter_congr hsame, ← hnodup.erase_eq_filter]
  exact (List.perm_cons_erase hr).flatMap_right _

/-! ## Records and items that come -/

theorem insertReferral_perm (r : Referral) (rs : List Referral) :
    (insertReferral r rs).Perm (r :: rs) := by
  induction rs with
  | nil => exact .refl _
  | cons x xs ih =>
    unfold insertReferral
    split
    · exact .refl _
    · exact (ih.cons x).trans (.swap r x xs)

theorem insertReferral_sorted {r : Referral} {rs : List Referral}
    (h : (rs.map Referral.number).Pairwise (· < ·)) (hr : r.number ∉ rs.map Referral.number) :
    ((insertReferral r rs).map Referral.number).Pairwise (· < ·) := by
  induction rs with
  | nil => simp [insertReferral]
  | cons x xs ih =>
    simp only [List.map_cons, List.pairwise_cons, List.forall_mem_map] at h
    obtain ⟨hfirst, hrest⟩ := h
    simp only [List.map_cons, List.mem_cons, not_or] at hr
    obtain ⟨hx, hxs⟩ := hr
    unfold insertReferral
    split
    · next hlt =>
      simp only [List.map_cons, List.pairwise_cons, List.mem_cons, List.forall_mem_map,
        forall_eq_or_imp]
      exact ⟨⟨hlt, fun y hy => hlt.trans (hfirst y hy)⟩, hfirst, hrest⟩
    · next hge =>
      simp only [List.map_cons, List.pairwise_cons, List.forall_mem_map, mem_insertReferral,
        forall_eq_or_imp]
      exact ⟨⟨by omega, hfirst⟩, ih hrest hxs⟩

theorem itemsOf_insertReferral (r : Referral) (rs : List Referral) :
    (itemsOf (insertReferral r rs)).Perm (r.waiting ++ itemsOf rs) :=
  (insertReferral_perm r rs).flatMap_right _

/-- A record of one item joins the list, which has room for both (R50, R51). -/
theorem RecordsOk.insert {rs : List Referral} {r : Referral} {w : Waiting} (h : RecordsOk rs)
    (hrecords : rs.length < Config.maxReferrals) (hitems : (itemsOf rs).length < Config.maxWaiting)
    (hnumber : r.number ∉ rs.map Referral.number) (hwaiting : r.waiting = [w])
    (hkey : w.key ∉ (itemsOf rs).map Waiting.key)
    (harticle : r.kind = .miss → r.article ∉ missArticles rs) : RecordsOk (insertReferral r rs) := by
  have hperm := insertReferral_perm r rs
  have hitemsPerm := itemsOf_insertReferral r rs
  rw [hwaiting] at hitemsPerm
  have hmem : ∀ x, x ∈ insertReferral r rs ↔ x = r ∨ x ∈ rs := mem_insertReferral r rs
  constructor
  case records => rw [hperm.length_eq]; exact hrecords
  case items => rw [hitemsPerm.length_eq]; exact hitems
  case numbers => exact insertReferral_sorted h.numbers hnumber
  case someItem =>
    intro x hx
    rcases (hmem x).1 hx with rfl | hx
    · simp [hwaiting]
    · exact h.someItem x hx
  case oneItem =>
    intro x hx hkind
    rcases (hmem x).1 hx with rfl | hx
    · simp [hwaiting]
    · exact h.oneItem x hx hkind
  case keys => exact (hitemsPerm.map _).nodup_iff.2 (List.nodup_cons.2 ⟨hkey, h.keys⟩)
  case articles =>
    have harticles : (missArticles (insertReferral r rs)).Perm (missArticles (r :: rs)) :=
      (hperm.filter _).map _
    rw [harticles.nodup_iff]
    unfold missArticles
    rw [List.filter_cons]
    split
    · next hmiss => exact List.nodup_cons.2 ⟨harticle (by simpa using hmiss), h.articles⟩
    · exact h.articles

theorem mem_missArticles {rs : List Referral} {article : Nat} :
    article ∈ missArticles rs ↔ ∃ r ∈ rs, r.isMiss article = true := by
  unfold missArticles
  simp only [List.mem_map, List.mem_filter, beq_iff_eq, Referral.isMiss_iff]
  exact ⟨fun ⟨r, ⟨hr, hkind⟩, ha⟩ => ⟨r, hr, hkind, ha⟩,
    fun ⟨r, hr, hkind, ha⟩ => ⟨r, ⟨hr, hkind⟩, ha⟩⟩

theorem map_join_eq_self {rs : List Referral} {article : Nat} (w : Waiting)
    (h : article ∉ missArticles rs) : rs.map (Referral.join article w) = rs := by
  refine (List.map_congr_left fun r hr => ?_).trans (List.map_id rs)
  exact if_neg fun hmiss => h (mem_missArticles.2 ⟨r, hr, hmiss⟩)

/-- The one MISS record of the article takes the item. -/
theorem itemsOf_join {rs : List Referral} {article : Nat} (w : Waiting) (h : (missArticles rs).Nodup)
    (hmiss : article ∈ missArticles rs) :
    (itemsOf (rs.map (Referral.join article w))).Perm (w :: itemsOf rs) := by
  induction rs with
  | nil => cases hmiss
  | cons r rs ih =>
    unfold itemsOf at *
    rw [List.map_cons, List.flatMap_cons, List.flatMap_cons]
    by_cases hr : r.isMiss article = true
    · obtain ⟨hkind, harticle⟩ := (Referral.isMiss_iff _ _).1 hr
      have hrest : article ∉ missArticles rs := by
        rw [missArticles, List.filter_cons, if_pos (by simp [hkind]), List.map_cons, harticle] at h
        exact (List.nodup_cons.1 h).1
      rw [map_join_eq_self w hrest, Referral.join, if_pos hr, List.append_assoc]
      exact List.perm_middle
    · have hsub : (missArticles rs).Sublist (missArticles (r :: rs)) :=
        ((List.sublist_cons_self r rs).filter _).map _
      have hrest : article ∈ missArticles rs := by
        obtain ⟨x, hx, hxmiss⟩ := mem_missArticles.1 hmiss
        rcases List.mem_cons.1 hx with rfl | hx
        · exact absurd hxmiss hr
        · exact mem_missArticles.2 ⟨x, hx, hxmiss⟩
      rw [Referral.join, if_neg hr]
      exact ((ih (h.sublist hsub) hrest).append_left r.waiting).trans List.perm_middle

/-- An item joins the MISS record of its article (R50). -/
theorem RecordsOk.join {rs : List Referral} {article : Nat} {w : Waiting} (h : RecordsOk rs)
    (hmiss : article ∈ missArticles rs) (hitems : (itemsOf rs).length < Config.maxWaiting)
    (hkey : w.key ∉ (itemsOf rs).map Waiting.key) :
    RecordsOk (rs.map (Referral.join article w)) := by
  have hperm := itemsOf_join w h.articles hmiss
  have hfields : ∀ r, (Referral.join article w r).number = r.number ∧
      (Referral.join article w r).kind = r.kind ∧ (Referral.join article w r).article = r.article := by
    intro r
    unfold Referral.join
    split <;> exact ⟨rfl, rfl, rfl⟩
  constructor
  case records => rw [List.length_map]; exact h.records
  case items => rw [hperm.length_eq]; exact hitems
  case numbers =>
    rw [List.map_map]
    exact (List.map_congr_left fun r _ => (hfields r).1) ▸ h.numbers
  case someItem =>
    intro x hx
    obtain ⟨r, hr, rfl⟩ := List.mem_map.1 hx
    unfold Referral.join
    split
    · simp
    · exact h.someItem r hr
  case oneItem =>
    intro x hx hkind
    obtain ⟨r, hr, rfl⟩ := List.mem_map.1 hx
    rw [(hfields r).2.1] at hkind
    rw [Referral.join, if_neg fun hm => hkind ((Referral.isMiss_iff _ _).1 hm).1]
    exact h.oneItem r hr hkind
  case keys => exact (hperm.map _).nodup_iff.2 (List.nodup_cons.2 ⟨hkey, h.keys⟩)
  case articles =>
    have harticles : missArticles (rs.map (Referral.join article w)) = missArticles rs := by
      unfold missArticles
      rw [List.filter_map, List.map_map]
      refine (List.map_congr_left fun r _ => (hfields r).2.2).trans (congrArg _ ?_)
      exact List.filter_congr fun r _ => congrArg (· == ReferralKind.miss) (hfields r).2.1
    rw [harticles]
    exact h.articles

end Sys2Proof.Machine
end

section
/-! SUPPORT. What each part of an evaluation, and each end of a held item, keeps of the laws of the Referral List
and of the links of the hall (`Tends`). -/

namespace Sys2Proof.Machine

-- One theorem after another: many that wait for the kernel at once take threads and memory.
set_option Elab.async false

/-- The fields of the hall: those that the laws of referrals, sessions and stations speak of. -/
def State.hall (s : State) : List Referral × Vector Nat 8 × List Session × List Nat × List Nat ×
    Option Nat × Vector Station 8 :=
  (s.referrals, s.heldCounts, s.sessions, s.awaiting, s.voucherQueue, s.transfer.session?, s.stations)

/-- What an event keeps of the hall: the law of the Referral List, and the links between the blocks. -/
structure Tends (s t : State) : Prop where
  referrals : ReferralsOk s → ReferralsOk t
  linked : ReferralsOk s → Linked s.waitingItems noSession s → Linked t.waitingItems noSession t

theorem Tends.refl (s : State) : Tends s s := ⟨id, fun _ => id⟩

theorem Tends.trans {s t u : State} (h : Tends s t) (k : Tends t u) : Tends s u :=
  ⟨fun hs => k.referrals (h.referrals hs), fun hs hl => k.linked (h.referrals hs) (h.linked hs hl)⟩

/-- The hall is the same, but for the Referral List. -/
theorem Linked.of_rest {H : List Waiting} {out : Nat → Prop} {s t : State} (h : Linked H out s)
    (hrest : t.hall.2 = s.hall.2) : Linked H out t := by
  simp only [State.hall, Prod.mk.injEq] at hrest
  obtain ⟨hcounts, hsessions, hawaiting, hqueue, hhead, hstations⟩ := hrest
  exact h.of_same hsessions hcounts hstations hqueue hhead hawaiting

theorem Linked.of_hall {H : List Waiting} {out : Nat → Prop} {s t : State} (h : Linked H out s)
    (hhall : t.hall = s.hall) : Linked H out t := h.of_rest (congrArg Prod.snd hhall)

/-- The Referral List is the same. -/
theorem Tends.of_linked {s t : State} (hreferrals : t.referrals = s.referrals)
    (h : ∀ H, Linked H noSession s → Linked H noSession t) : Tends s t := by
  refine ⟨fun hs => ?_, fun _ hl => ?_⟩
  · rwa [referralsOk_iff, hreferrals, ← referralsOk_iff]
  · rw [State.waitingItems, hreferrals]
    exact h _ hl

/-- The hall is the same. -/
theorem Tends.elsewhere {s t : State} (hhall : t.hall = s.hall := by rfl) : Tends s t :=
  .of_linked (congrArg Prod.fst hhall) fun _ hl => hl.of_hall hhall

theorem LaneOnly.hall {s t : State} (h : LaneOnly s t) : t.hall = s.hall := by rw [h]; rfl

@[simp] theorem State.placeAll_hall (fs : List Frame) (s : State) : (s.placeAll fs).hall = s.hall := by
  simp [State.hall]

theorem State.reply_tends (tag : Byte) (code : Nat) (r : ReplyCode) (results : List Byte) (s : State) :
    Tends s (s.reply tag code r results) := .elsewhere (State.placeAll_hall _ s)

theorem State.refuse_tends (tag : Byte) (code : Nat) (r : ReplyCode) (s : State) :
    Tends s (s.refuse tag code r) := State.reply_tends tag code r [] s

theorem Tends.reply {s t : State} (h : Tends s t) (tag : Byte) (code : Nat) (r : ReplyCode)
    (results : List Byte) : Tends s (t.reply tag code r results) :=
  h.trans (State.reply_tends tag code r results t)

theorem State.place_tends (f : Frame) (s : State) : Tends s (s.place f) := .elsewhere

/-! ## Acceptances -/

@[simp] theorem State.countAccepted_hall (a : Accept) (own bottle : Nat) (s : State) :
    (s.countAccepted a own bottle).hall = s.hall := by
  unfold State.countAccepted State.countCells
  dsimp only
  split
  · rfl
  · split
    · rfl
    · split <;> rfl

/-- An acceptance is to the hall a session add (R41, R42). -/
theorem State.accept_hall (a : Accept) (x : Session) (i : Fin 12) (fill : Nat) (s : State) :
    (s.accept a x i fill).hall = (s.sessionAdd a x).hall := by
  unfold State.accept
  refine (State.countAccepted_hall a _ _ _).trans ?_
  exact (LaneOnly.hall (State.appendOrder_laneOnly i _ { s.sessionAdd a x with lastHandle := _ })).trans rfl

theorem State.sessionAdd_linked {H : List Waiting} {out : Nat → Prop} {s : State} (a : Accept)
    (x : Session) (h : Linked H out s) : Linked H out (s.sessionAdd a x) := by
  refine Linked.of_hall (s := s.onSession x.number _) ?_ rfl
  exact h.onSession (fun _ => {}) fun _ _ _ => ⟨rfl, rfl⟩

/-- Final verdicts of the steps from 7 on keep the links, whatever items are held. -/
theorem State.fromCap_linked {H : List Waiting} (a : Accept) {s : State} (h : Linked H noSession s) :
    Linked H noSession (s.fromCap a) := by
  unfold State.fromCap
  split
  · exact h
  · split
    · exact h.of_hall rfl
    · split
      · exact h.of_hall rfl
      · next i _ =>
        exact (State.sessionAdd_linked a _ (h.of_hall (State.reserve_laneOnly i _ s).hall)).of_hall
          (State.accept_hall a _ i _ _)

theorem State.fromCap_referrals (a : Accept) (s : State) : (s.fromCap a).referrals = s.referrals := by
  unfold State.fromCap
  split
  · rfl
  · split
    · rfl
    · split
      · rfl
      · next i _ =>
        refine (congrArg Prod.fst (State.accept_hall a _ i _ _)).trans ?_
        exact congrArg Prod.fst (State.reserve_laneOnly i _ s).hall

theorem State.fromCap_tends (a : Accept) (s : State) : Tends s (s.fromCap a) :=
  .of_linked (State.fromCap_referrals a s) fun _ => State.fromCap_linked a

theorem State.returnItem_tends (st : Fin 8) (seq : Nat) (r : ReturnReason) (s : State) :
    Tends s (s.returnItem st seq r) := .elsewhere

/-! ## Taking items into the Referral List (R50, R51) -/

/-- An item may be taken: its key is not that of a waiting item, and where the links hold its session is a
current session of its station. -/
structure Takable (w : Waiting) (s : State) : Prop where
  key : w.key ∉ s.waitingItems.map Waiting.key
  owner : Linked s.waitingItems noSession s →
    ∃ x, s.session? w.session = some x ∧ x.station = w.station ∧ x.isCurrent = true

theorem State.isHeld_eq_false {s : State} {st : Fin 8} {seq : Nat} (h : s.isHeld st seq = false) :
    (st, seq) ∉ s.waitingItems.map Waiting.key := by
  rw [State.isHeld, List.any_eq_false] at h
  rw [List.mem_map]
  rintro ⟨w, hw, hkey⟩
  refine h w hw ?_
  simp only [Waiting.key, Prod.mk.injEq] at hkey
  simp [hkey]

/-- The Referral List takes an item, which is held. -/
theorem Takable.tends {w : Waiting} {s t : State} (h : Takable w s)
    (hsame : t.hall.2 = (s.hold w).hall.2) (hrecords : RecordsOk s.referrals → RecordsOk t.referrals)
    (hitems : RecordsOk s.referrals → t.waitingItems.Perm (w :: s.waitingItems)) : Tends s t := by
  refine ⟨fun hs => (referralsOk_iff t).2 (hrecords ((referralsOk_iff s).1 hs)), fun hs hl => ?_⟩
  obtain ⟨x, hx, hstation, hcurrent⟩ := h.owner hl
  exact ((hl.hold hx hstation hcurrent).of_rest hsame).perm (hitems ((referralsOk_iff s).1 hs)).symm

theorem State.makeReferral_tends {kind : ReferralKind} {article : Nat} {w : Waiting} {s : State}
    (h : Takable w s) (hroom : s.referralRoom = true)
    (harticle : kind = .miss → article ∉ missArticles s.referrals) :
    Tends s (s.makeReferral kind article w) := by
  simp only [State.referralRoom, Bool.and_eq_true, decide_eq_true_eq] at hroom
  have hfresh : s.nextReferral ∉ s.referrals.map Referral.number := by
    refine freshNumber_not_mem _ _ _ ?_
    rw [List.length_map]
    exact hroom.1.trans (by decide)
  refine h.tends rfl (fun hs => ?_) fun _ => itemsOf_insertReferral _ s.referrals
  exact hs.insert hroom.1 hroom.2 hfresh rfl h.key harticle

theorem State.requestMiss_tends {article : Nat} {w : Waiting} {s : State} (h : Takable w s) :
    Tends s (s.requestMiss article w) := by
  unfold State.requestMiss
  split
  · next hany =>
    have hmiss : article ∈ missArticles s.referrals := mem_missArticles.2 (List.any_eq_true.1 hany)
    split
    · next hroom =>
      exact h.tends rfl (fun hs => hs.join hmiss hroom h.key) fun hs => itemsOf_join w hs.articles hmiss
    · exact State.returnItem_tends _ _ _ s
  · next hnone =>
    split
    · next hroom =>
      exact State.makeReferral_tends h hroom fun _ hmem =>
        hnone (List.any_eq_true.2 (mem_missArticles.1 hmem))
    · exact State.returnItem_tends _ _ _ s

theorem State.requestDecision_tends {article : Nat} {e : Entry} {w : Waiting} {s : State}
    (h : Takable w s) : Tends s (s.requestDecision article e w) := by
  unfold State.requestDecision
  split
  · next hroom => exact State.makeReferral_tends h hroom fun hk => nomatch hk
  · exact State.returnItem_tends _ _ _ s

/-! ## Evaluations -/

theorem State.fromRights_tends {article : Nat} {e : Entry} {w : Waiting} {s : State}
    (h : Takable w s) : Tends s (s.fromRights .report article e w) := by
  unfold State.fromRights
  split
  · exact State.returnItem_tends _ _ _ s
  · exact State.returnItem_tends _ _ _ s
  · exact State.requestDecision_tends h
  · exact State.fromCap_tends _ s

theorem State.fromLookup_tends {article : Nat} {w : Waiting} {s : State} (h : Takable w s) :
    Tends s (s.fromLookup .report article w) := by
  unfold State.fromLookup
  split
  · exact State.requestMiss_tends h
  · split
    · exact State.returnItem_tends _ _ _ s
    · exact State.fromRights_tends ⟨h.key, h.owner⟩

theorem State.fromCode_tends {st : Fin 8} {n : Nat} {r : Report} {s : State}
    (hkey : s.isHeld st r.seq = false)
    (howner : Linked s.waitingItems noSession s →
      ∃ x, s.session? n = some x ∧ x.station = st ∧ x.isCurrent = true) :
    Tends s (s.fromCode st n r) := by
  unfold State.fromCode
  split
  · exact State.returnItem_tends _ _ _ s
  · exact State.fromLookup_tends ⟨State.isHeld_eq_false hkey, howner⟩

/-- Step 2 starts the idle timer of an OPEN session (R29, R64). -/
theorem State.touch_tends {n : Nat} {s : State}
    (h : ∀ H, Linked H noSession s → ∀ x, s.session? n = some x → x.state = .opened) :
    Tends s (s.touch n) :=
  .of_linked rfl fun H hl => hl.onSession (fun _ => {}) fun x hx hne => absurd (h H hl x hx) hne

theorem State.current?_spec {s : State} {st : Fin 8} {x : Session} (h : s.current? st = some x) :
    x ∈ s.sessions ∧ x.station = st ∧ x.isCurrent = true := by
  have hfound := List.find?_some h
  simp only [Bool.and_eq_true, beq_iff_eq] at hfound
  exact ⟨List.mem_of_find?_eq_some h, hfound⟩

/-- The links name the current session of a station by its number. -/
theorem Linked.session?_of_current? {H : List Waiting} {out : Nat → Prop} {s : State}
    (h : Linked H out s) {st : Fin 8} {x : Session} (hx : s.current? st = some x) :
    s.session? x.number = some x := h.seats.known x (State.current?_spec hx).1

theorem State.touch_current? {s : State} {st : Fin 8} {x : Session} (hx : s.current? st = some x) :
    (s.touch x.number).current? st = some (x.touched s) := by
  have h := State.onSession_current? s x.number
    (fun x => { x with lastItem := s.now, idleExpiry := idleExpiryAt s.now s.params.idleTime }) st
    (fun _ => rfl) fun _ => rfl
  rw [hx, Option.map_some, if_pos rfl] at h
  exact h

/-- A session opens (R63). -/
theorem State.openSession_tends {st : Fin 8} {s : State}
    (hroom : s.sessions.length < Config.maxSessions) (hstation : s.isAttached st = true)
    (hnone : s.current? st = none) : Tends s (s.openSession st) := by
  refine .of_linked rfl fun H hl => ?_
  have hfresh := State.nextSession_fresh hroom
  have hphase : (s.openSession st).phase? = Function.update s.phase? s.nextSession (some .opened) := by
    funext m
    rw [State.phase?, State.openSession_session? hfresh, Function.update_apply]
    split <;> rfl
  have hnew : s.phase? s.nextSession = none := by
    rw [State.phase?, State.session?_eq_none_of_fresh hfresh]
    rfl
  refine ⟨hl.seats.openSession hroom hstation hnone, ?_, ?_⟩
  · rw [hphase]
    refine hl.queue.outside (fun hmem => ?_) (by simp) (by simp)
    rw [hl.queue.queued, hnew] at hmem
    simp at hmem
  · rw [hphase]
    exact hl.print.outside (by simp [hnew]) (by simp)

theorem State.fromSession_tends {st : Fin 8} {r : Report} {s : State}
    (hkey : s.isHeld st r.seq = false) (hstation : s.isAttached st = true) :
    Tends s (s.fromSession st r) := by
  unfold State.fromSession
  split
  · next x hx =>
    obtain ⟨-, hplace, hcurrent⟩ := State.current?_spec hx
    split
    · next hopened =>
      have htouch : Tends s (s.touch x.number) := State.touch_tends fun H hl y hy =>
        Option.some.inj (hy.symm.trans (hl.session?_of_current? hx)) ▸ hopened
      refine htouch.trans (State.fromCode_tends hkey fun hl => ?_)
      have hfound := hl.session?_of_current? (State.touch_current? hx)
      exact ⟨_, hfound, hplace, hcurrent⟩
    · exact State.returnItem_tends _ _ _ s
  · next hnone =>
    split
    · next hroom =>
      have hfound := (State.openSession_session? (st := st) (State.nextSession_fresh hroom)
        s.nextSession).trans (if_pos rfl)
      have htouch : Tends (s.openSession st) ((s.openSession st).touch s.nextSession) :=
        State.touch_tends fun _ _ y hy => Option.some.inj (hfound.symm.trans hy) ▸ rfl
      refine ((State.openSession_tends hroom hstation hnone).trans htouch).trans
        (State.fromCode_tends hkey fun _ => ?_)
      rw [State.touch_session?, hfound]
      exact ⟨_, rfl, rfl, rfl⟩
    · exact State.returnItem_tends _ _ _ s

theorem State.evaluate_tends (st : Fin 8) (r : Report) (s : State) : Tends s (s.evaluate st r) := by
  unfold State.evaluate
  split
  · next hop =>
    split
    · exact .refl s
    · next hheld =>
      split
      · exact State.returnItem_tends _ _ _ s
      · refine State.fromSession_tends (by simpa using hheld) ?_
        rw [State.isAttached, hop]
        rfl
  · split
    · exact .refl s
    · exact State.returnItem_tends _ _ _ s
  all_goals exact .refl s

/-! ## Ends of held items (R44, R53 to R56) -/

/-- A final verdict: the Referral List is the same, and the links are kept, whatever items are held. -/
structure Final (verdict : Waiting → State → State) : Prop where
  referrals : ∀ w t, (verdict w t).referrals = t.referrals
  linked : ∀ w t H, Linked H noSession t → Linked H noSession (verdict w t)

theorem State.returnWaiting_final (r : ReturnReason) : Final (State.returnWaiting r) :=
  ⟨fun _ _ => rfl, fun _ _ _ h => h.of_hall rfl⟩

theorem State.resumeDecided_final (kind : ReferralKind) (d : Decided) (route : RouteClass) :
    Final (State.resumeDecided kind d route) :=
  ⟨fun _ t => State.fromCap_referrals _ t, fun _ _ _ h => State.fromCap_linked _ h⟩

theorem State.resumeEntry_final (article : Nat) : Final (State.resumeEntry article) := by
  suffices h : ∀ w t, (State.resumeEntry article w t).referrals = t.referrals ∧
      ∀ H, Linked H noSession t → Linked H noSession (State.resumeEntry article w t) from
    ⟨fun w t => (h w t).1, fun w t => (h w t).2⟩
  intro w t
  have hreturn : ∀ r, (t.returnItem w.station w.report.seq r).referrals = t.referrals ∧
      ∀ H, Linked H noSession t → Linked H noSession (t.returnItem w.station w.report.seq r) :=
    fun _ => ⟨rfl, fun _ h => h.of_hall rfl⟩
  unfold State.resumeEntry State.fromLookup
  split
  · exact hreturn _
  · split
    · exact hreturn _
    · unfold State.fromRights
      split
      · exact hreturn _
      · exact hreturn _
      · exact hreturn _
      · exact ⟨State.fromCap_referrals _ t, fun _ h => State.fromCap_linked _ h⟩

theorem State.endItems_referrals {verdict : Waiting → State → State} (hv : Final verdict)
    (ws : List Waiting) (s : State) : (s.endItems verdict ws).referrals = s.referrals := by
  induction ws generalizing s with
  | nil => rfl
  | cons w ws ih =>
    rw [State.endItems_cons, ih, State.releaseItem, State.settle_sessionOnly w.session _]
    exact hv.referrals w s

theorem State.referral?_spec {s : State} {n : Nat} {r : Referral} (h : s.referral? n = some r) :
    r ∈ s.referrals ∧ r.number = n :=
  ⟨List.mem_of_find?_eq_some h, by simpa using List.find?_some h⟩

/-- The items of a record end, and the record is freed before or after. -/
theorem State.endRecord_tends {verdict : Waiting → State → State} (hv : Final verdict) {n : Nat}
    {r : Referral} {s : State} (hr : s.referral? n = some r) :
    Tends s ((s.freeReferral n).endItems verdict r.waiting) ∧
    Tends s ((s.endItems verdict r.waiting).freeReferral n) := by
  obtain ⟨hmem, rfl⟩ := State.referral?_spec hr
  have hends := State.endItems_referrals hv r.waiting
  have hrest : ∀ {t : State}, t.referrals = s.referrals.filter (·.number != r.number) →
      ((∀ H, Linked (r.waiting ++ H) noSession s → Linked H noSession t) → Tends s t) := by
    intro t ht hlinked
    refine ⟨fun hs => ?_, fun hs hl => ?_⟩
    · rw [referralsOk_iff] at hs ⊢
      rw [ht]
      exact hs.sublist List.filter_sublist
    · rw [State.waitingItems_eq, ht]
      exact hlinked _ (hl.perm (itemsOf_perm_of_mem ((referralsOk_iff s).1 hs).numbers hmem))
  constructor
  · refine hrest (hends _) fun H hl => State.endItems_linked hv.linked (hl.of_same rfl rfl rfl rfl rfl rfl)
  · refine hrest ?_ fun H hl => (State.endItems_linked hv.linked hl).of_same rfl rfl rfl rfl rfl rfl
    show (State.referrals _).filter _ = _
    rw [hends]

end Sys2Proof.Machine
end

section
/-! SUPPORT. Withdrawals, leaving service, and deliveries: what they keep of the laws of the Referral List and of
the links of the hall (R57, R58, R67, R73). -/

namespace Sys2Proof.Machine

-- One theorem after another: many that wait for the kernel at once take threads and memory.
set_option Elab.async false

/-! ## Items taken out (R57, R58) -/

theorem State.removeWaiting_hall (gone : Waiting → Bool) (cause : EndedCause) (s : State) :
    (s.removeWaiting gone cause).hall = (withoutItems gone s.referrals, s.hall.2) := by
  unfold State.removeWaiting
  dsimp only
  rw [State.placeAll_hall]
  rfl

/-- The items that are taken out no longer count. -/
theorem Tends.of_removed {gone : Waiting → Bool} {s t : State}
    (ht : t.referrals = withoutItems gone s.referrals)
    (hlinked : ReferralsOk s → ∀ H, (∀ w ∈ H, gone w = false) →
      Linked (s.waitingItems.filter gone ++ H) noSession s → Linked H noSession t) : Tends s t := by
  refine ⟨fun hs => ?_, fun hs hl => ?_⟩
  · rw [referralsOk_iff] at hs ⊢
    rw [ht]
    exact hs.withoutItems gone
  · rw [State.waitingItems_eq, ht, itemsOf_withoutItems]
    exact hlinked hs _ (fun w hw => by simpa using (List.mem_filter.1 hw).2)
      (hl.perm (List.filter_append_perm gone _).symm)

/-- The key of a waiting item names no other (R28). -/
theorem ReferralsOk.filter_names {s : State} (hs : ReferralsOk s) {st : Fin 8} {seq : Nat} {w : Waiting}
    (hw : s.waitingItems.find? (Waiting.names st seq) = some w) :
    s.waitingItems.filter (Waiting.names st seq) = [w] := by
  have hkeys : (s.waitingItems.map Waiting.key).Nodup := ((referralsOk_iff s).1 hs).keys
  have hnames : ∀ v, Waiting.names st seq v = true → v.key = (st, seq) := fun v hv => by
    simpa [Waiting.names, Waiting.key] using hv
  have hmem : w ∈ s.waitingItems.filter (Waiting.names st seq) :=
    List.mem_filter.2 ⟨List.mem_of_find?_eq_some hw, List.find?_some hw⟩
  have hone := (filter_length_le_one (List.Nodup.of_map _ hkeys)).2 fun a ha b hb hpa hpb =>
    List.inj_on_of_nodup_map hkeys ha hb ((hnames a hpa).trans (hnames b hpb).symm)
  obtain ⟨v, hv⟩ := List.length_eq_one_iff.1 (Nat.le_antisymm hone (List.length_pos_of_mem hmem))
  rw [hv] at hmem ⊢
  rw [List.mem_singleton.1 hmem]

theorem State.withdraw_tends {st : Fin 8} {seq : Nat} {w : Waiting} {s : State}
    (hw : s.waitingItems.find? (Waiting.names st seq) = some w) :
    Tends s (((s.unhold w).removeWaiting (Waiting.names st seq) .withdrawn).settle w.session) := by
  have hhall := State.removeWaiting_hall (Waiting.names st seq) .withdrawn (s.unhold w)
  refine .of_removed (gone := Waiting.names st seq) ?_ fun hs H _ hl => ?_
  · rw [State.settle_sessionOnly w.session _]
    exact congrArg Prod.fst hhall
  · rw [hs.filter_names hw] at hl
    have hunheld : Linked H (· = w.session) (s.unhold w) :=
      (hl.out (out' := (· = w.session)) fun _ _ _ _ _ => not_false).unhold rfl
    refine hl.settle_unhold (hunheld.of_rest (by rw [hhall])) (fun x hx => ?_) ?_
    · simp only [State.hall, Prod.mk.injEq] at hhall
      rw [State.session?_of_same (t := State.removeWaiting _ _ _) hhall.2.2.1] at hx
      have hfind := (State.recount_session? w (· - 1) s w.session).symm.trans hx
      rw [if_pos rfl] at hfind
      obtain ⟨y, hy, rfl⟩ := Option.map_eq_some_iff.1 hfind
      exact ⟨y, hy, rfl, rfl⟩
    · simp only [State.hall, Prod.mk.injEq] at hhall
      exact hhall.2.2.2.2.2.2

/-! ## Leaving service (R58, R67, R163) -/

/-- A session of a station. -/
def State.AtStation (s : State) (st : Fin 8) (n : Nat) : Prop :=
  ∃ x, s.session? n = some x ∧ x.station = st

theorem State.recount_atStation (w : Waiting) (k : Nat → Nat) (s : State) (st : Fin 8) :
    (s.recount w k).AtStation st = s.AtStation st := by
  funext n
  unfold State.AtStation
  rw [State.recount_session?]
  by_cases hn : n = w.session
  · subst hn
    rw [if_pos rfl]
    cases s.session? w.session <;> simp
  · rw [if_neg hn]

theorem State.unholdAll_linked {st : Fin 8} {ws H : List Waiting} {s : State}
    (h : Linked (ws ++ H) (s.AtStation st) s) (hws : ∀ w ∈ ws, w.station = st) :
    Linked H ((ws.foldl (fun t w => t.unhold w) s).AtStation st) (ws.foldl (fun t w => t.unhold w) s) := by
  induction ws generalizing s with
  | nil => exact h
  | cons w ws ih =>
    refine ih ?_ fun v hv => hws v (List.mem_cons_of_mem w hv)
    obtain ⟨x, hx, hstation, -⟩ := h.seats.owner w (by simp)
    have hat : s.AtStation st w.session := ⟨x, hx, hstation.trans (hws w (by simp))⟩
    have hsame : (s.unhold w).AtStation st = s.AtStation st := State.recount_atStation w (· - 1) s st
    rw [hsame]
    exact h.unhold hat

/-- The current session of a station that is left, with no item of the station held, is closed or
completed. -/
theorem Linked.leave {H : List Waiting} {st : Fin 8} {s : State} (d : Disposition)
    (h : Linked H (s.AtStation st) s) (hH : ∀ w ∈ H, w.station ≠ st) :
    Linked H noSession (match s.current? st with
      | some x => if x.state = .opened then s.closeSession x.number d else s.settle x.number
      | none => s) := by
  split
  · next x hx =>
    obtain ⟨-, hstation, hcurrent⟩ := State.current?_spec hx
    have hfound := h.session?_of_current? hx
    have hone : Linked H (· = x.number) s := h.out fun m y hy hc hm => by
      rintro ⟨z, hz, hst⟩
      obtain rfl : z = y := Option.some.inj (hz.symm.trans hy)
      exact hm (h.seats.unique m x.number z x hy hfound hc hcurrent (hst.trans hstation.symm))
    have hheld : x.held = 0 := by
      rw [h.seats.held x.number x hfound, List.countP_eq_zero]
      intro w hw hn
      obtain ⟨y, hy, hst, -⟩ := h.seats.owner w hw
      rw [beq_iff_eq] at hn
      rw [hn, hfound] at hy
      cases hy
      exact hH w hw (hst.symm.trans hstation)
    split
    · next hst => exact State.closeSession_linked d hone hfound hst (fun m hm _ => hm) (.inl hheld)
    · next hst =>
      refine State.settle_linked hone (fun m hm _ => hm) fun y hy _ => .inl ?_
      obtain rfl : y = x := Option.some.inj (hy.symm.trans hfound)
      simp only [Session.isCurrent, Bool.or_eq_true, beq_iff_eq] at hcurrent
      exact ⟨hcurrent.resolve_left hst, hheld⟩
  · next hnone =>
    refine h.out fun n x hx hcurrent _ => ?_
    rintro ⟨y, hy, hst⟩
    obtain rfl : y = x := Option.some.inj (hy.symm.trans hx)
    have hfree := List.find?_eq_none.1 hnone y (State.mem_of_session? hy)
    simp [hst, hcurrent] at hfree

theorem State.removeStation_hall (st : Fin 8) (s : State) : (s.removeStation st).hall =
    (withoutItems (fun w => w.station == st) s.referrals,
      ((s.waitingItems.filter fun w => w.station == st).foldl (fun t w => t.unhold w) s).hall.2) := by
  have hreferrals : ∀ (ws : List Waiting) (t : State),
      (ws.foldl (fun t w => t.unhold w) t).referrals = t.referrals := by
    intro ws
    induction ws with
    | nil => exact fun _ => rfl
    | cons w ws ih => exact fun t => ih (t.unhold w)
  unfold State.removeStation
  rw [State.removeWaiting_hall, hreferrals]

theorem State.leaveService_referrals (st : Fin 8) (s : State) :
    (s.leaveService st).referrals = (s.removeStation st).referrals := by
  unfold State.leaveService
  dsimp only
  split
  · split
    · rw [State.closeSession_sessionOnly _ _ _]
    · rw [State.settle_sessionOnly _ _]
  · rfl

/-- A station goes out of service, its record having been changed. -/
theorem State.leaveService_tends (st : Fin 8) (y : Station) (s : State) :
    Tends s ((s.setStation st y).leaveService st) := by
  have hhall := State.removeStation_hall st (s.setStation st y)
  refine .of_removed (gone := fun w => w.station == st) ?_ fun _ H hH hl => ?_
  · rw [State.leaveService_referrals]
    exact congrArg Prod.fst hhall
  · have hseats : Linked (s.waitingItems.filter (fun w => w.station == st) ++ H)
        ((s.setStation st y).AtStation st) (s.setStation st y) := by
      refine ⟨hl.seats.setStation (fun n x hx _ hst hn => absurd ⟨x, hx, hst⟩ hn) fun _ _ => not_false,
        hl.queue, hl.print⟩
    have hunheld := State.unholdAll_linked hseats fun w hw => by simpa using (List.mem_filter.1 hw).2
    have hremoved := hunheld.of_rest (t := (s.setStation st y).removeStation st) (by rw [hhall]; rfl)
    have hat : ((s.setStation st y).removeStation st).AtStation st = State.AtStation (List.foldl
        (fun t w => t.unhold w) (s.setStation st y) (s.waitingItems.filter fun w => w.station == st)) st := by
      simp only [State.hall, Prod.mk.injEq] at hhall
      funext n
      unfold State.AtStation
      rw [State.session?_of_same hhall.2.2.1]
      rfl
    rw [← hat] at hremoved
    exact hremoved.leave _ fun w hw => by simpa using hH w hw

/-! ## Deliveries to a station (R73) -/

/-- A session in AWAIT_PRINT is freed, or none (R72, R75). -/
theorem Linked.freeSession {H : List Waiting} {out : Nat → Prop} {s : State} {n : Nat}
    (h : Linked H out s) (hx : ∀ x, s.session? n = some x → x.state = .awaitPrint) :
    Linked H out (s.freeSession n) := by
  have hphase := State.freeSession_phase s n
  refine ⟨h.seats.freeSession (fun x hx' hc => ?_) fun _ _ => id, ?_, ?_⟩
  · simp [Session.isCurrent, hx x hx'] at hc
  · rw [hphase]
    refine h.queue.outside (fun hmem => ?_) (by simp) (by simp)
    rw [h.queue.queued, State.phase?] at hmem
    cases hfound : s.session? n with
    | none => simp [hfound] at hmem
    | some x => simp [hfound, hx x hfound] at hmem
  · rw [hphase]
    exact h.print.freed n

theorem State.deliverAwaiting_linked {H : List Waiting} {out : Nat → Prop} {st : Fin 8} {s : State}
    (h : Linked H out s) : Linked H out (s.deliverAwaiting st) := by
  have hpass : ∀ (xs : List Session) (t : State), Linked H out t →
      (∀ x ∈ xs, ∀ y, t.session? x.number = some y → y.state = .awaitPrint) →
      Linked H out (xs.foldl (fun t x => if x.station = st then t.sendResult x else t) t) := by
    intro xs
    induction xs with
    | nil => exact fun t ht _ => ht
    | cons x xs ih =>
      intro t ht hwait
      have hrest : ∀ z ∈ xs, ∀ y, t.session? z.number = some y → y.state = .awaitPrint :=
        fun z hz => hwait z (List.mem_cons_of_mem x hz)
      rw [List.foldl_cons]
      split
      · refine ih _ ((ht.freeSession (hwait x (by simp))).of_hall rfl) fun z hz y hy => ?_
        have hfind := (State.freeSession_session? t x.number z.number).symm.trans hy
        split at hfind
        · cases hfind
        · exact hrest z hz y hfind
      · exact ih t ht hrest
  refine hpass _ s h fun x hx y hy => ?_
  obtain ⟨n, hn, hfound⟩ := List.mem_filterMap.1 hx
  obtain rfl : x.number = n := State.session?_number hfound
  have hphase := (h.print.printing _).1 hn
  rw [State.phase?_eq hy] at hphase
  exact Option.some.inj hphase

end Sys2Proof.Machine
end

section
/-! SUPPORT. Every command keeps the law of the Referral List and the links of the hall (`Tending`). -/

namespace Sys2Proof.Machine

-- One theorem after another: many that wait for the kernel at once take threads and memory.
set_option Elab.async false

/-- An outcome is a next state that keeps the laws of the hall. -/
def Tending (s : State) (o : Host.Outcome State Fault Refusal) : Prop :=
  ∃ t, o = .next t ∧ Tends s t

theorem live_tending {f : State → State} {s : State} (h : Tends s (f s)) : Tending s (live f s) := by
  cases hr : s.resetAsserted
  · exact ⟨f s, live_released hr, h⟩
  · exact ⟨s, live_asserted hr, .refl s⟩

theorem Quiet.tending {s : State} {o : Host.Outcome State Fault Refusal} (h : Quiet s o) :
    Tending s o := by
  obtain ⟨t, hnext, hfloor⟩ := h
  simp only [State.floor, Prod.mk.injEq] at hfloor
  obtain ⟨-, -, hreferrals, hcounts, hsessions, hawaiting, hqueue, hhead, hstations⟩ := hfloor
  exact ⟨t, hnext, .of_linked hreferrals fun _ hl =>
    hl.of_same hsessions hcounts hstations hqueue hhead hawaiting⟩

theorem LaneOnly.tends {s t : State} (h : LaneOnly s t) : Tends s t := .elsewhere h.hall

section
variable (s : State) (tag : Byte)

/-! ## Stations -/

/-- A station's record changes, and it is attached if it was. -/
theorem State.setStation_tends {st : Fin 8} {y : Station}
    (h : (s.stations[st]).state.attached = true → y.state.attached = true) :
    Tends s (s.setStation st y) := by
  refine .of_linked rfl fun H hl => ⟨hl.seats.setStation (fun n x hx hc hst hn => h ?_) fun _ => id,
    hl.queue, hl.print⟩
  subst hst
  exact hl.seats.attached n x hx hc hn

theorem State.lose_tends (st : Fin 8) (loss : LossCause) (cause : ChangeCause)
    (k : Option StationKind) : Tends s (s.lose st loss cause k) :=
  (State.leaveService_tends st _ s).trans .elsewhere

theorem State.countAnnounce_tends (st : Fin 8) (k : StationKind) : Tends s (s.countAnnounce st k) := by
  unfold State.countAnnounce
  dsimp only
  split
  · exact State.setStation_tends s id
  · split
    · exact State.setStation_tends s id
    · exact (State.setStation_tends s fun _ => rfl).trans .elsewhere

theorem State.hearAnnounce_tends (st : Fin 8) (k : StationKind) : Tends s (s.hearAnnounce st k) := by
  unfold State.hearAnnounce
  dsimp only
  split
  · exact State.setStation_tends s id
  · exact State.lose_tends s _ _ _ _

theorem execAnnounce_tending (src : Nat) (payload : List Byte) :
    Tending s (execAnnounce src payload s) := by
  refine live_tending ?_
  split
  · split
    · exact State.countAnnounce_tends s _ _
    · exact State.hearAnnounce_tends s _ _
    · exact State.hearAnnounce_tends s _ _
    · exact State.hearAnnounce_tends s _ _
    all_goals exact .refl s
  · exact .refl s

theorem execSilenceExpiry_tending (n : Nat) : Tending s (execSilenceExpiry n s) := by
  refine live_tending ?_
  split
  · split
    · split
      · exact State.lose_tends s _ _ _ _
      · exact .refl s
    · exact .refl s
  · exact .refl s

theorem execReadStatusStation_tending (n : Nat) : Tending s (execReadStatusStation tag n s) := by
  refine live_tending ?_
  split
  · exact State.refuse_tends _ _ _ s
  · refine Tends.reply (State.setStation_tends s ?_) _ _ _ _
    exact id

theorem execStationGoListen_tending (n : Nat) : Tending s (execStationGoListen tag n s) := by
  refine live_tending ?_
  split
  · exact State.refuse_tends _ _ _ s
  · dsimp only
    split
    · next h => exact Tends.reply (State.setStation_tends s fun ha => by rw [h] at ha; cases ha) _ _ _ _
    · next h => exact Tends.reply (State.setStation_tends s fun ha => by rw [h] at ha; cases ha) _ _ _ _
    all_goals exact State.refuse_tends _ _ _ s

/-- A STATION MODE of an attached state is entered. -/
theorem State.enterMode_tends (st : Fin 8) {mode : StationState} (h : mode.attached = true) :
    Tends s (s.enterMode st mode) :=
  (State.setStation_tends s fun _ => h).trans (State.place_tends _ _)

theorem State.operate_tends (st : Fin 8) :
    Tends s ((s.enterMode st .operating).deliverAwaiting st) := by
  refine (State.enterMode_tends s st rfl).trans (.of_linked ?_ fun _ hl =>
    State.deliverAwaiting_linked hl)
  rw [State.deliverAwaiting_sessionOnly st _]

theorem execStationGoOperate_tending (n : Nat) : Tending s (execStationGoOperate tag n s) := by
  refine live_tending ?_
  split
  · exact State.refuse_tends _ _ _ s
  · split
    · exact (State.operate_tends s _).reply _ _ _ _
    · exact (State.operate_tends s _).reply _ _ _ _
    all_goals exact State.refuse_tends _ _ _ s

theorem execStationGoPause_tending (n : Nat) : Tending s (execStationGoPause tag n s) := by
  refine live_tending ?_
  split
  · exact State.refuse_tends _ _ _ s
  · split
    · exact (State.enterMode_tends s _ rfl).reply _ _ _ _
    all_goals exact State.refuse_tends _ _ _ s

theorem State.turnOff_tends (st : Fin 8) : Tends s (s.turnOff st) := by
  unfold State.turnOff
  dsimp only
  refine Tends.trans ?_ (State.place_tends _ _)
  split
  · next h => exact State.setStation_tends s fun ha => by rw [h] at ha; cases ha
  · exact State.leaveService_tends st _ s
  · exact State.leaveService_tends st _ s
  · exact State.leaveService_tends st _ s
  · next h => exact State.setStation_tends s fun ha => by rw [h] at ha; cases ha
  · exact .refl s

theorem execStationGoOff_tending (n : Nat) : Tending s (execStationGoOff tag n s) := by
  refine live_tending ?_
  split
  · exact State.refuse_tends _ _ _ s
  · split
    · exact State.reply_tends _ _ _ _ s
    · exact (State.turnOff_tends s _).reply _ _ _ _

/-! ## Items and referrals -/

theorem execItemReport_tending (src : Nat) (payload : List Byte) :
    Tending s (execItemReport src payload s) := by
  refine live_tending ?_
  split
  · exact State.evaluate_tends _ _ s
  · exact .refl s

theorem execItemWithdraw_tending (src : Nat) (payload : List Byte) :
    Tending s (execItemWithdraw src payload s) := by
  refine live_tending ?_
  split
  · split
    · next hw => exact State.withdraw_tends hw
    · exact .refl s
  · exact .refl s

theorem execReferralExpiry_tending (n : Nat) : Tending s (execReferralExpiry n s) := by
  refine live_tending ?_
  split
  · next r hr =>
    split
    · exact (State.endRecord_tends (State.returnWaiting_final .referTimeout) hr).2.trans .elsewhere
    · exact .refl s
  · exact .refl s

theorem State.loadEntry_hall (e : Entry) : (s.loadEntry e).2.hall = s.hall := by
  rcases State.loadEntry_cases e s with h | h
  · rw [h]
  · rw [h]; rfl

theorem State.lateEntry_tends (e : Entry) : Tends s (s.lateEntry tag e) := by
  have hload : Tends s (s.loadEntry e).2 := .elsewhere (State.loadEntry_hall s e)
  unfold State.lateEntry
  split
  all_goals
    next t ht =>
    rw [ht] at hload
    exact hload.reply _ _ _ _

theorem State.answerMiss_tends {n : Nat} {r : Referral} (hr : s.referral? n = some r) (e : Entry) :
    Tends s (s.answerMiss tag r e) := by
  have hhall := State.loadEntry_hall s e
  obtain ⟨-, rfl⟩ := State.referral?_spec hr
  unfold State.answerMiss
  split
  · next t ht =>
    rw [ht] at hhall
    exact (Tends.elsewhere hhall).trans (State.refuse_tends _ _ _ _)
  all_goals
    next t ht =>
    rw [ht] at hhall
    have hfound : t.referral? r.number = some r := by
      rw [State.referral?, show t.referrals = s.referrals from congrArg Prod.fst hhall]
      exact hr
    exact ((Tends.elsewhere hhall).trans
      (State.endRecord_tends (State.resumeEntry_final r.article) hfound).1).reply _ _ _ _

theorem execReferralAnswerEntry_tending (n : Nat) (e : RawEntry) :
    Tending s (execReferralAnswerEntry tag n e s) := by
  refine live_tending ?_
  split
  · split
    · exact State.lateEntry_tends s tag _
    · next r hr =>
      split
      · exact State.refuse_tends _ _ _ s
      · exact State.answerMiss_tends s tag hr _
  · exact State.refuse_tends _ _ _ s

theorem State.resolve_tends {n : Nat} {r : Referral} (hr : s.referral? n = some r)
    {verdict : Waiting → State → State} (hv : Final verdict) : Tends s (s.resolve tag r verdict) := by
  obtain ⟨-, rfl⟩ := State.referral?_spec hr
  exact (State.endRecord_tends hv hr).1.reply _ _ _ _

theorem execReferralAnswerDecide_tending (n v c r : Nat) :
    Tending s (execReferralAnswerDecide tag n v c r s) := by
  refine live_tending ?_
  split
  · split
    · exact State.refuse_tends _ _ _ s
    · next x hx =>
      split
      · exact State.resolve_tends s tag hx (State.returnWaiting_final _)
      · split
        · exact State.resolve_tends s tag hx (State.resumeDecided_final _ _ _)
        · exact State.refuse_tends _ _ _ s
  · exact State.refuse_tends _ _ _ s

/-! ## Sessions -/

/-- An OPEN session is closed; the links name it by its number. -/
theorem State.closeSession_tends {n : Nat} (d : Disposition)
    (h : ∀ H, Linked H noSession s → ∃ x, s.session? n = some x ∧ x.state = .opened) :
    Tends s (s.closeSession n d) := by
  refine .of_linked ?_ fun H hl => ?_
  · rw [State.closeSession_sessionOnly n d s]
  · obtain ⟨x, hx, hst⟩ := h H hl
    have hcurrent : x.isCurrent = true := by simp [Session.isCurrent, hst]
    exact State.closeSession_linked d hl hx hst (fun _ _ => id)
      (.inr (hl.seats.attached n x hx hcurrent not_false))

theorem State.closeCurrent_tends {st : Fin 8} {x : Session} (d : Disposition)
    (hx : s.current? st = some x) (hst : x.state = .opened) : Tends s (s.closeSession x.number d) :=
  State.closeSession_tends s d fun _ hl => ⟨x, hl.session?_of_current? hx, hst⟩

theorem execSessionClose_tending (src : Nat) (payload : List Byte) :
    Tending s (execSessionClose src payload s) := by
  refine live_tending ?_
  split
  · split
    · next hx =>
      split
      · next hst => exact State.closeCurrent_tends s _ hx hst
      · exact .refl s
    · next hx =>
      split
      · next hst => exact State.closeCurrent_tends s _ hx hst
      · exact .refl s
    · exact .refl s
  · exact .refl s

theorem execIdleExpiry_tending (n : Nat) : Tending s (execIdleExpiry n s) := by
  refine live_tending ?_
  split
  · next x hx =>
    split
    · split
      · next hst => exact State.closeSession_tends s _ fun _ _ => ⟨x, hx, hst.1⟩
      · exact .refl s
    · exact .refl s
  · exact .refl s

theorem execDiscardSession_tending (n : Nat) : Tending s (execDiscardSession tag n s) := by
  refine live_tending ?_
  split
  · exact State.refuse_tends _ _ _ s
  · split
    · exact State.refuse_tends _ _ _ s
    · next x hx =>
      split
      · next hst =>
        have hfree : Tends s (s.freeSession n) := .of_linked rfl fun _ hl =>
          hl.freeSession fun y hy => Option.some.inj (hy.symm.trans hx) ▸ hst
        exact hfree.reply _ _ _ _
      · exact State.refuse_tends _ _ _ s

/-! ## The Voucher Unit -/

theorem State.stopTransfer_hall (c : StopCause) : (s.stopTransfer c).hall = s.hall := by
  unfold State.stopTransfer
  split
  · next htransfer =>
    split
    · have hhead : s.transfer.session? = _ := congrArg Transfer.session? htransfer
      simp only [State.hall, hhead]
      rfl
    · rfl
  all_goals rfl

/-- The VOUCHER LINES of the transfer's own session are produced. -/
theorem State.enterData_hall {n tag : Nat} (h : s.transfer.session? = some n) :
    (s.enterData n tag).hall = s.hall := by
  unfold State.enterData
  split
  · rfl
  · next x _ =>
    have hplaced := State.placeAll_hall (lineFrames n tag x.lines) s
    simp only [State.hall, Prod.mk.injEq] at hplaced ⊢
    obtain ⟨hreferrals, hcounts, hsessions, hawaiting, hqueue, -, hstations⟩ := hplaced
    exact ⟨hreferrals, hcounts, hsessions, hawaiting, hqueue, h.symm, hstations⟩

theorem State.enterRequest_hall {n tag : Nat} (h : s.transfer.session? = some n) :
    (s.enterRequest n tag).hall = s.hall := by
  unfold State.enterRequest
  split
  · rfl
  · simp only [State.hall, h]
    rfl

theorem State.resumePhase_hall {p : Phase} {n tag : Nat} (h : s.transfer.session? = some n) :
    (s.resumePhase p n tag).hall = s.hall := by
  cases p
  · exact State.enterRequest_hall s h
  · exact State.enterData_hall s h
  · simp only [State.resumePhase, State.enterStatus, State.hall, h]
    rfl

theorem execRequestAccepted_tending (src : Nat) (payload : List Byte) :
    Tending s (execRequestAccepted src payload s) := by
  refine live_tending ?_
  split
  · split
    · next htransfer _ =>
      split
      · exact .elsewhere (State.enterData_hall s (congrArg Transfer.session? htransfer))
      · exact .elsewhere (State.stopTransfer_hall s _)
    · exact .refl s
  · exact .refl s

/-- The transfer of a session ends with a decided outcome. -/
theorem State.endTransfer_tends {n : Nat} {f : Session → Session} (g : Totals → Totals)
    (htransfer : s.transfer.session? = some n) (hseat : ∀ x, SameSeat x (f x))
    (hclosed : ∀ x, (f x).disposition = x.disposition ∧ (f x).idleExpiry = x.idleExpiry) :
    Tends s (s.endTransfer n f g) := by
  refine .of_linked ?_ fun _ hl => State.endTransfer_linked g hl htransfer hseat hclosed
  rw [State.endTransfer_sessionOnly n f g s]

theorem execVoucherStatus_tending (src : Nat) (payload : List Byte) :
    Tending s (execVoucherStatus src payload s) := by
  refine live_tending ?_
  split
  · split
    · next htransfer =>
      split
      · exact .elsewhere (State.stopTransfer_hall s _)
      · exact State.endTransfer_tends s _ (congrArg Transfer.session? htransfer) (fun _ => {})
          fun _ => ⟨rfl, rfl⟩
    · exact .refl s
  · exact .refl s

theorem execReplyTimerExpiry_tending : Tending s (execReplyTimerExpiry s) := by
  refine live_tending ?_
  split
  · split
    · exact .elsewhere (State.stopTransfer_hall s _)
    · exact .refl s
  · exact .refl s

theorem State.onStopped_tends (n : Nat) {act : Phase → Nat → State → State}
    (h : ∀ p t, s.transfer.session? = some n → Tends s (act p t s)) :
    Tends s (s.onStopped tag n act) := by
  unfold State.onStopped
  split
  · exact State.refuse_tends _ _ _ s
  · split
    · next htransfer =>
      split
      · next hn =>
        subst hn
        exact h _ _ (congrArg Transfer.session? htransfer)
      · exact State.refuse_tends _ _ _ s
    all_goals exact State.refuse_tends _ _ _ s

theorem execVoucherControlResume_tending (n : Nat) :
    Tending s (execVoucherControlResume tag n s) :=
  live_tending (State.onStopped_tends s tag n fun _ _ h =>
    (Tends.elsewhere (State.resumePhase_hall s h)).reply _ _ _ _)

/-- REQUEST begins again for the session of the transfer (R90). -/
theorem State.beginRequest_tends {n : Nat} (h : s.transfer.session? = some n) :
    Tends s (s.beginRequest n) := by
  refine .of_linked ?_ fun H hl => ?_
  · rw [State.beginRequest_sessionOnly n s]
  · have hissuing := (hl.queue.issuing n).2 h
    obtain ⟨x, hx, hst⟩ := Option.map_eq_some_iff.1 hissuing
    refine State.beginRequest_linked hx (.inr hst) hl.seats hl.print ?_
    rw [← hissuing, Function.update_eq_self, ← h]
    exact hl.queue

theorem execVoucherControlRestart_tending (n : Nat) :
    Tending s (execVoucherControlRestart tag n s) :=
  live_tending (State.onStopped_tends s tag n fun _ _ h => (State.beginRequest_tends s h).reply _ _ _ _)

theorem execVoucherControlCancel_tending (n : Nat) :
    Tending s (execVoucherControlCancel tag n s) := by
  refine live_tending (State.onStopped_tends s tag n fun _ _ h => Tends.reply ?_ _ _ _ _)
  exact State.endTransfer_tends s _ h (fun _ => {}) fun _ => ⟨rfl, rfl⟩

theorem execVoucherControlAbort_tending (n : Nat) : Tending s (execVoucherControlAbort tag n s) := by
  refine live_tending ?_
  split
  · exact State.refuse_tends _ _ _ s
  · split
    · split
      · refine Tends.reply (.elsewhere ((State.stopTransfer_hall _ _).trans ?_)) _ _ _ _
        split <;> rfl
      · exact State.refuse_tends _ _ _ s
    all_goals exact State.refuse_tends _ _ _ s

/-! ## Timers and lanes -/

theorem State.startReplyTimer_hall (n : Nat) : (s.startReplyTimer n).hall = s.hall := by
  unfold State.startReplyTimer
  split
  · next htransfer =>
    split
    · have hhead : s.transfer.session? = _ := congrArg Transfer.session? htransfer
      simp only [State.hall, hhead]
      rfl
    · rfl
  all_goals rfl

theorem State.startDropTimer_hall (n lane : Nat) : (s.startDropTimer n lane).hall = s.hall := by
  unfold State.startDropTimer
  split
  · rfl
  · split
    · split <;> rfl
    · rfl

theorem State.startTimers_hall (q : Queued) : (s.startTimers q).hall = s.hall := by
  unfold State.startTimers
  split
  · exact State.startReplyTimer_hall s _
  · exact State.startReplyTimer_hall s _
  · exact State.startReplyTimer_hall s _
  · exact State.startDropTimer_hall s _ _
  all_goals rfl

theorem State.onPort_hall (l : Link) (f : Port → Port) : (s.onPort l f).hall = s.hall := by
  cases l <;> rfl

theorem execFrameSent_tending (l : Link) : Tending s (execFrameSent l s) := by
  refine live_tending ?_
  dsimp only
  split
  · exact .elsewhere ((State.startTimers_hall _ _).trans (State.onPort_hall s l _))
  · exact .refl s

theorem execDropDone_tending (src : Nat) (payload : List Byte) :
    Tending s (execDropDone src payload s) := by
  refine live_tending ?_
  split
  · split
    · split
      · exact (State.endDrop_laneOnly _ _ s).tends
      · exact .refl s
    · exact .refl s
  · exact .refl s

theorem execDropExpiry_tending (n : Nat) : Tending s (execDropExpiry n s) := by
  refine live_tending ?_
  split
  · split
    · split
      · split
        · exact (State.endDrop_laneOnly _ _ s).tends
        · exact .refl s
      · exact .refl s
    · exact .refl s
  · exact .refl s

theorem execStrokeRecordExpiry_tending : Tending s (execStrokeRecordExpiry s) := by
  refine live_tending ?_
  split
  · split
    · exact .trans .elsewhere (State.consider_laneOnly _).tends
    · exact .refl s
  · exact .refl s

theorem execLaneReport_tending (src : Nat) (payload : List Byte) :
    Tending s (execLaneReport src payload s) := by
  refine live_tending ?_
  split
  · exact (State.report_laneOnly _ _ s).tends
  · exact .refl s

theorem execFeedfltClear_tending : Tending s (execFeedfltClear s) := by
  refine ⟨_, rfl, ?_⟩
  unfold State.feedLevel
  dsimp only
  split
  · exact .elsewhere
  · rw [if_neg Bool.false_ne_true]
    exact .trans .elsewhere (State.consider_laneOnly _).tends

theorem execSetLane_tending (n k r c f w : Nat) : Tending s (execSetLane tag n k r c f w s) := by
  refine live_tending ?_
  split
  · dsimp only
    split
    · split
      · exact State.refuse_tends _ _ _ s
      · exact Tends.reply ((LaneOnly.setLane _ _ s).trans (State.testNearlyFull_laneOnly _ _)).tends
          _ _ _ _
    · exact State.refuse_tends _ _ _ s
  · exact State.refuse_tends _ _ _ s

theorem execLaneGoOpen_tending (n : Nat) : Tending s (execLaneGoOpen tag n s) := by
  refine live_tending ?_
  split
  · exact State.refuse_tends _ _ _ s
  · dsimp only
    split
    · split
      · refine Tends.reply ?_ _ _ _ _
        split
        · exact (State.changeLane_laneOnly _ _ s).tends
        · exact (State.returnTo_laneOnly _ _ s).tends
      · exact State.refuse_tends _ _ _ s
    · exact (State.returnTo_laneOnly _ _ s).tends.reply _ _ _ _
    all_goals exact State.refuse_tends _ _ _ s

theorem execLaneGoDrain_tending (n : Nat) : Tending s (execLaneGoDrain tag n s) := by
  refine live_tending ?_
  split
  · exact State.refuse_tends _ _ _ s
  · split
    · exact (State.changeLane_laneOnly _ _ s).tends.reply _ _ _ _
    · exact (LaneOnly.setLane _ _ s).tends.reply _ _ _ _
    all_goals exact State.refuse_tends _ _ _ s

theorem execLaneGoClearFault_tending (n : Nat) : Tending s (execLaneGoClearFault tag n s) := by
  refine live_tending ?_
  split
  · exact State.refuse_tends _ _ _ s
  · split
    · split
      · exact State.refuse_tends _ _ _ s
      · exact Tends.reply ((LaneOnly.setPipe _ _ s).trans (State.changeLane_laneOnly _ _ _)).tends
          _ _ _ _
    all_goals exact State.refuse_tends _ _ _ s

theorem execMaskLane_tending (n m : Nat) : Tending s (execMaskLane tag n m s) := by
  refine live_tending ?_
  split
  · exact (LaneOnly.setLane _ _ s).tends.reply _ _ _ _
  · exact State.refuse_tends _ _ _ s

theorem execReadStatusLane_tending (n : Nat) : Tending s (execReadStatusLane tag n s) := by
  refine live_tending ?_
  split
  · exact State.reply_tends _ _ _ _ s
  · split
    · exact State.refuse_tends _ _ _ s
    · exact (LaneOnly.setLane _ _ s).tends.reply _ _ _ _

/-! ## Resets -/

/-- The hall is empty: no record, no session, no transfer. -/
theorem Tends.of_empty {s t : State} (hreferrals : t.referrals = [])
    (hcounts : t.heldCounts = Vector.replicate 8 0) (hsessions : t.sessions = [])
    (hawaiting : t.awaiting = []) (hqueue : t.voucherQueue = []) (htransfer : t.transfer = .idle) :
    Tends s t := by
  have hnone : ∀ n, t.session? n = none := fun n => by simp [State.session?, hsessions]
  have hphase : ∀ n, t.phase? n = none := fun n => by rw [State.phase?, hnone]; rfl
  refine ⟨fun _ => ?_, fun _ _ => ?_⟩
  · rw [referralsOk_iff, hreferrals]
    exact ⟨by simp, by simp [itemsOf], by simp, by simp, by simp, by simp [itemsOf],
      by simp [missArticles]⟩
  · have hitems : t.waitingItems = [] := by rw [State.waitingItems, hreferrals]; rfl
    rw [hitems]
    refine ⟨⟨by simp [hsessions], by simp [hcounts], by simp [hnone], by simp, by simp [hnone],
      by simp [hnone], by simp [hnone], by simp [hnone]⟩, ?_, ?_⟩
    · rw [hqueue, htransfer]
      exact ⟨List.nodup_nil, by simp [hphase], rfl, by simp [hphase, Transfer.session?]⟩
    · rw [hawaiting]
      exact ⟨List.nodup_nil, by simp [hphase]⟩

theorem execResetRelease_tending : Tending s (execResetRelease s) := by
  refine ⟨_, rfl, ?_⟩
  split
  · have hreleased : Tends s s.released := .of_empty rfl rfl rfl rfl rfl rfl
    split
    · exact hreleased.trans .elsewhere
    · exact hreleased
  · exact .refl s

theorem LaneOnly.foldl {α : Type} {f : State → α → State} (h : ∀ t a, LaneOnly t (f t a)) (l : List α)
    (s : State) : LaneOnly s (l.foldl f s) := by
  induction l generalizing s with
  | nil => exact .refl s
  | cons a l ih => exact (h s a).trans (ih _)

theorem State.closeLane_laneOnly (i : Fin 12) : LaneOnly s (s.closeLane i) := by
  unfold State.closeLane
  split
  · exact .refl s
  · exact LaneOnly.trans (LaneOnly.setLane i _ s) (LaneOnly.place _ _)

theorem State.resetLanes_laneOnly : LaneOnly s s.resetLanes := by
  have hgiveUp : LaneOnly s { s with back := s.back.giveUp Frame.ofPipeline } := rfl
  have hempty : ∀ t i, LaneOnly t (State.emptyPipe i t) := fun t i =>
    (LaneOnly.setPipe i _ t).trans (.foldl (fun u o => State.toOverflow_laneOnly i o u) _ _)
  exact ((hgiveUp.trans (.foldl hempty _ _)).trans
    (.foldl (fun t i => State.closeLane_laneOnly t i) _ _)).trans
      (.foldl (fun t i => State.testNearlyFull_laneOnly i t) _ _)

theorem execCornerReset_tending : Tending s (execCornerReset tag s) := by
  have hlanes := State.resetLanes_laneOnly s.resetReferrals.resetSessions.resetVoucher
  refine live_tending (Tends.reply (.of_empty ?_ ?_ ?_ ?_ ?_ ?_) _ _ _ _)
  all_goals
    unfold State.resetCorner
    dsimp only
    rw [hlanes]
    rfl

end

/-! ## Every step -/

theorem exec_tending (s : State) (c : Instr) : Tending s (exec c s) := by
  cases hquiet : isQuiet c with
  | true => exact (exec_quiet s hquiet).tending
  | false =>
    cases c with
    | resetRelease => exact execResetRelease_tending s
    | feedfltClear => exact execFeedfltClear_tending s
    | frameSent l => exact execFrameSent_tending s l
    | announce src p => exact execAnnounce_tending s src p
    | silenceExpiry n => exact execSilenceExpiry_tending s n
    | itemReport src p => exact execItemReport_tending s src p
    | itemWithdraw src p => exact execItemWithdraw_tending s src p
    | sessionClose src p => exact execSessionClose_tending s src p
    | idleExpiry n => exact execIdleExpiry_tending s n
    | referralExpiry n => exact execReferralExpiry_tending s n
    | requestAccepted src p => exact execRequestAccepted_tending s src p
    | voucherStatus src p => exact execVoucherStatus_tending s src p
    | replyTimerExpiry => exact execReplyTimerExpiry_tending s
    | dropDone src p => exact execDropDone_tending s src p
    | dropExpiry n => exact execDropExpiry_tending s n
    | strokeRecordExpiry => exact execStrokeRecordExpiry_tending s
    | laneReport src p => exact execLaneReport_tending s src p
    | referralAnswerEntry tag n r => exact execReferralAnswerEntry_tending s tag n r
    | referralAnswerDecide tag n v c r => exact execReferralAnswerDecide_tending s tag n v c r
    | discardSession tag n => exact execDiscardSession_tending s tag n
    | voucherControlResume tag n => exact execVoucherControlResume_tending s tag n
    | voucherControlRestart tag n => exact execVoucherControlRestart_tending s tag n
    | voucherControlCancel tag n => exact execVoucherControlCancel_tending s tag n
    | voucherControlAbort tag n => exact execVoucherControlAbort_tending s tag n
    | setLane tag l k r c f w => exact execSetLane_tending s tag l k r c f w
    | laneGoOpen tag n => exact execLaneGoOpen_tending s tag n
    | laneGoDrain tag n => exact execLaneGoDrain_tending s tag n
    | laneGoClearFault tag n => exact execLaneGoClearFault_tending s tag n
    | maskLane tag l m => exact execMaskLane_tending s tag l m
    | readStatusStation tag n => exact execReadStatusStation_tending s tag n
    | readStatusLane tag n => exact execReadStatusLane_tending s tag n
    | stationGoListen tag n => exact execStationGoListen_tending s tag n
    | stationGoOperate tag n => exact execStationGoOperate_tending s tag n
    | stationGoPause tag n => exact execStationGoPause_tending s tag n
    | stationGoOff tag n => exact execStationGoOff_tending s tag n
    | cornerReset tag => exact execCornerReset_tending s tag
    | _ => cases hquiet

theorem step_tends {s t : State} (h : step s = .next t) : Tends s t := by
  rcases step_cases h with ⟨c, rest, hexec⟩ | rfl
  · obtain ⟨u, hu, htends⟩ := exec_tending { s with pending := rest } c
    rw [hexec] at hu
    cases hu
    exact .trans (t := { s with pending := rest }) .elsewhere htends
  · obtain ⟨u, hu, htends⟩ := Quiet.tending ⟨s.tick, rfl, State.tick_floor s⟩
    cases hu
    exact htends

/-- Settles O58. -/
theorem stepKeepsTheReferrals : Obligations.StepKeepsTheReferrals := by
  unfold Obligations.StepKeepsTheReferrals
  refine ⟨fun s t hs hstep => (step_tends hstep).referrals hs, fun s t hsessions hs hlinked hstep => ?_⟩
  have hsessions' : SessionsOk t :=
    step_keeps_books (fun _ _ h => h.sessionsOk) (fun _ _ _ h => h.sessionsOk) hsessions hstep
  exact (linkedOk_iff hsessions').2
    ((step_tends hstep).linked hs ((linkedOk_iff hsessions).1 hlinked))

end Sys2Proof.Machine
end

section
/-! SUPPORT. Numbers in bytes (R170, R181): what `be` writes `unbe` reads, and how the payload formats read their
fields. -/

namespace Sys2Proof.Machine

-- One theorem after another: many that wait for the kernel at once take threads and memory.
set_option Elab.async false

/-! ## Fields -/

@[simp] theorem be_length (n v : Nat) : (be n v).length = n := by
  induction n generalizing v with
  | zero => rfl
  | succ n ih => simp [be, ih]

theorem unbe_append_singleton (bs : List Byte) (b : Byte) :
    unbe (bs ++ [b]) = unbe bs * 256 + b.toNat := by simp [unbe]

theorem unbe_be (n v : Nat) (h : v < 256 ^ n) : unbe (be n v) = v := by
  induction n generalizing v with
  | zero => simp only [Nat.pow_zero] at h; simp [be, unbe]; omega
  | succ n ih =>
    have hdiv : v / 256 < 256 ^ n := by
      rw [Nat.div_lt_iff_lt_mul (by decide), ← Nat.pow_succ]
      exact h
    rw [be, unbe_append_singleton, ih _ hdiv, BitVec.toNat_ofNat]
    omega

/-- A field at the head of the bytes is read. -/
theorem fields_be {w v : Nat} (ws : List Nat) (bs : List Byte) (h : v < 256 ^ w) :
    fields (w :: ws) (be w v ++ bs) = (fields ws bs).map (v :: ·) := by
  rw [fields, if_neg (by simp), List.drop_left' (be_length w v), List.take_left' (be_length w v),
    unbe_be w v h]

theorem fields_nil : fields [] [] = some [] := rfl

/-- Bytes that make fields are as many as the widths say. -/
theorem fields_length {ws : List Nat} {bs : List Byte} {vs : List Nat} (h : fields ws bs = some vs) :
    bs.length = ws.sum := by
  induction ws generalizing bs vs with
  | nil =>
    cases bs with
    | nil => rfl
    | cons b bs => cases h
  | cons w ws ih =>
    rw [fields] at h
    split at h
    · cases h
    · obtain ⟨us, hus, -⟩ := Option.map_eq_some_iff.1 h
      have hrest := ih hus
      rw [List.length_drop] at hrest
      rw [List.sum_cons]
      omega

theorem fields_eq_none {ws : List Nat} {bs : List Byte} (h : bs.length ≠ ws.sum) :
    fields ws bs = none := by
  cases hf : fields ws bs with
  | none => rfl
  | some vs => exact absurd (fields_length hf) h

/-! ## The formats -/

theorem Thermal.ofCode_code (c : Thermal) : Thermal.ofCode c.code = some c := by cases c <;> rfl

theorem markOfCode_cond (b : Bool) : markOfCode (cond b 1 0) = some b := by cases b <;> rfl

theorem Thermal.ofCode_eq_none {n : Nat} : Thermal.ofCode n = none ↔ 4 < n := by
  match n with
  | 0 | 1 | 2 | 3 | 4 => decide
  | n + 5 => simp [Thermal.ofCode]

theorem markOfCode_eq_none {n : Nat} : markOfCode n = none ↔ 1 < n := by
  match n with
  | 0 | 1 => decide
  | n + 2 => simp [markOfCode]

theorem signatureOfCode_of_le {n : Nat} (h : n ≤ 4) :
    signatureOfCode n = some (if n = 4 then none else Material.ofCode n) := by
  match n, h with
  | 0, _ | 1, _ | 2, _ | 3, _ | 4, _ => rfl

theorem signatureOfCode_of_lt {n : Nat} (h : 4 < n) : signatureOfCode n = none := by
  match n, h with
  | n + 5, _ => simp [signatureOfCode, Material.ofCode]

/-- An ITEM REPORT of which a field is out of its range (R23). -/
def BadReport (mass height sig : Nat) (bottles : Option BottleFields) : Prop :=
  (4000 < mass ∧ mass ≠ 0xFFFF) ∨ 600 < height ∨ 4 < sig ∨
    ∃ b ∈ bottles, 30 < b.present ∨ 30 < b.foreign

theorem makeReport_of_bad {seq number mass height sig : Nat} {bottles : Option BottleFields}
    (h : BadReport mass height sig bottles) : makeReport seq number mass height sig bottles = none := by
  unfold makeReport
  by_cases hsig : 4 < sig
  · rw [signatureOfCode_of_lt hsig]
  · rw [signatureOfCode_of_le (by omega)]
    refine if_neg fun ⟨hmass, hheight, hbottles⟩ => ?_
    rcases h with h | h | h | ⟨b, hb, h⟩
    · omega
    · omega
    · exact hsig h
    · have := hbottles b hb
      omega

theorem makeReport_of_good {seq number mass height sig : Nat} {bottles : Option BottleFields}
    (h : ¬BadReport mass height sig bottles) : makeReport seq number mass height sig bottles = some
      { seq, number := if number ≤ 999999999999 then some number else none,
        mass := if mass = 0xFFFF then none else some mass, height,
        signature := if sig = 4 then none else Material.ofCode sig, bottles } := by
  simp only [BadReport, not_or, not_exists, not_and, not_lt] at h
  obtain ⟨hmass, hheight, hsig, hbottles⟩ := h
  unfold makeReport
  rw [signatureOfCode_of_le hsig]
  refine if_pos ⟨?_, hheight, fun b hb => hbottles b hb⟩
  omega

/-- The bytes of an ITEM REPORT (R23, R181). -/
def reportBytes (seq number mass height sig : Nat) (bottles : Option BottleFields) : List Byte :=
  be 1 seq ++ be 6 number ++ be 2 mass ++ be 2 height ++ be 1 sig ++
    (match bottles with | some b => be 1 b.present ++ be 1 b.foreign | none => [])

theorem parseReport_bytes {seq number mass height sig : Nat} {bottles : Option BottleFields}
    (hseq : seq < 256) (hnumber : number < 2 ^ 48) (hmass : mass < 65536) (hheight : height < 65536)
    (hsig : sig < 256) (hbottles : ∀ b ∈ bottles, b.present < 256 ∧ b.foreign < 256) :
    parseReport (reportBytes seq number mass height sig bottles) =
      makeReport seq number mass height sig bottles := by
  have hhead : ∀ ws bs, fields (1 :: 6 :: 2 :: 2 :: 1 :: ws) (be 1 seq ++ (be 6 number ++ (be 2 mass ++
      (be 2 height ++ (be 1 sig ++ bs))))) =
      (fields ws bs).map fun vs => seq :: number :: mass :: height :: sig :: vs := by
    intro ws bs
    rw [fields_be _ _ hseq, fields_be _ _ hnumber, fields_be _ _ hmass, fields_be _ _ hheight,
      fields_be _ _ hsig]
    simp only [Option.map_map]
    rfl
  unfold reportBytes parseReport
  simp only [List.append_assoc]
  cases bottles with
  | none => rw [hhead, fields_nil]; rfl
  | some b =>
    obtain ⟨hpresent, hforeign⟩ := hbottles b rfl
    have htail : fields [1, 1] (be 1 b.present ++ be 1 b.foreign) = some [b.present, b.foreign] := by
      rw [fields_be _ _ hpresent, ← List.append_nil (be 1 b.foreign), fields_be _ _ hforeign]
      rfl
    have hlong : fields [1, 6, 2, 2, 1] (be 1 seq ++ (be 6 number ++ (be 2 mass ++ (be 2 height ++
        (be 1 sig ++ (be 1 b.present ++ be 1 b.foreign)))))) = none := fields_eq_none (by simp)
    rw [hlong, hhead, htail]
    rfl

theorem parseReport_eq_none {p : List Byte} (h12 : p.length ≠ 12) (h14 : p.length ≠ 14) :
    parseReport p = none := by
  unfold parseReport
  rw [fields_eq_none (ws := [1, 6, 2, 2, 1]) h12, fields_eq_none (ws := [1, 6, 2, 2, 1, 1, 1]) h14]

theorem parseTag_eq_none {p : List Byte} : parseTag p = none ↔ p.length < 2 := by
  match p with
  | [] => simp [parseTag]
  | [a] => simp [parseTag]
  | a :: b :: bs => simp [parseTag]

theorem parseTag_be {h : Nat} (hh : h ≤ 65535) : parseTag (be 2 h) = some h := by
  have hread := unbe_be 2 h (by omega)
  exact congrArg some hread

theorem parseDropDone_bytes (a b r : Byte) : parseDropDone [a, b, r] =
    if a.toNat * 256 + b.toNat = 0 then none
    else if r.toNat = 0 then some (a.toNat * 256 + b.toNat, .pass)
    else if r.toNat = 1 then some (a.toNat * 256 + b.toNat, .fail) else none := by
  have hfields : fields [2, 1] [a, b, r] = some [a.toNat * 256 + b.toNat, r.toNat] := by
    simp [fields, unbe]
  unfold parseDropDone
  rw [hfields]
  split
  · next h => simp_all
  · next h => simp_all
  · next h0 h1 => split <;> simp_all

end Sys2Proof.Machine
end

section
/-! PROOFS. Frames that do not fit their owner's rule, and the payload formats (O52). -/

namespace Sys2Proof.Machine

-- One theorem after another: many that wait for the kernel at once take threads and memory.
set_option Elab.async false

/-! ## DROP DONE and LANE REPORT -/

theorem byte_toNat_eq_zero {a : Byte} : a.toNat = 0 ↔ a = 0 := by
  rw [← BitVec.toNat_inj]; rfl

theorem parseDropDone_eq_none {p : List Byte} : parseDropDone p = none ↔
    ¬∃ a b r : Byte, p = [a, b, r] ∧ ¬(a = 0 ∧ b = 0) ∧ r.toNat ≤ 1 := by
  by_cases hlength : p.length = 3
  · obtain ⟨a, b, r, rfl⟩ := List.length_eq_three.1 hlength
    have hzero : a.toNat * 256 + b.toNat = 0 ↔ a = 0 ∧ b = 0 := by
      rw [← byte_toNat_eq_zero, ← byte_toNat_eq_zero]
      omega
    have hone : (∃ a' b' r' : Byte, [a, b, r] = [a', b', r'] ∧ ¬(a' = 0 ∧ b' = 0) ∧ r'.toNat ≤ 1) ↔
        ¬(a = 0 ∧ b = 0) ∧ r.toNat ≤ 1 :=
      ⟨by rintro ⟨_, _, _, ⟨⟩, h⟩; exact h, fun h => ⟨a, b, r, rfl, h⟩⟩
    rw [parseDropDone_bytes, hone, ← hzero]
    split
    · next h => exact iff_of_true rfl fun hfit => hfit.1 h
    · next h =>
      split
      · exact iff_of_false (by simp) fun hfit => hfit ⟨h, by omega⟩
      · split
        · exact iff_of_false (by simp) fun hfit => hfit ⟨h, by omega⟩
        · exact iff_of_true rfl fun hfit => by omega
  · have hnone : parseDropDone p = none := by
      unfold parseDropDone
      rw [fields_eq_none (ws := [2, 1]) hlength]
    refine ⟨fun _ => ?_, fun _ => hnone⟩
    rintro ⟨a, b, r, rfl, -⟩
    exact hlength rfl

theorem parseDropDone_be {h : Nat} (hpos : 1 ≤ h) (hh : h ≤ 65535) (r : DropResult) :
    parseDropDone (be 2 h ++ be 1 r.code) = some (h, r) := by
  have hcode : r.code < 256 ^ 1 := by cases r <;> decide
  have hfields : fields [2, 1] (be 2 h ++ be 1 r.code) = some [h, r.code] := by
    rw [fields_be _ _ (by omega), ← List.append_nil (be 1 r.code), fields_be _ _ hcode]
    rfl
  unfold parseDropDone
  rw [hfields]
  cases r with
  | pass => exact if_neg (by omega)
  | fail => exact if_neg (by omega)

theorem parseLaneReport_bytes (c b j : Byte) : parseLaneReport [c, b, j] =
    (Thermal.ofCode c.toNat).bind fun thermal => (markOfCode b.toNat).bind fun binAbsent =>
      (markOfCode j.toNat).map fun jam => ⟨thermal, !binAbsent, jam⟩ := by
  have hfields : fields [1, 1, 1] [c, b, j] = some [c.toNat, b.toNat, j.toNat] := by
    simp [fields, unbe]
  unfold parseLaneReport
  rw [hfields]
  dsimp only
  cases Thermal.ofCode c.toNat with
  | none => rfl
  | some thermal => cases markOfCode b.toNat <;> cases markOfCode j.toNat <;> rfl

theorem parseLaneReport_eq_none {p : List Byte} : parseLaneReport p = none ↔
    ¬∃ c b j : Byte, p = [c, b, j] ∧ c.toNat ≤ 4 ∧ b.toNat ≤ 1 ∧ j.toNat ≤ 1 := by
  by_cases hlength : p.length = 3
  · obtain ⟨c, b, j, rfl⟩ := List.length_eq_three.1 hlength
    have hone : (∃ c' b' j' : Byte, [c, b, j] = [c', b', j'] ∧ c'.toNat ≤ 4 ∧ b'.toNat ≤ 1 ∧
        j'.toNat ≤ 1) ↔ c.toNat ≤ 4 ∧ b.toNat ≤ 1 ∧ j.toNat ≤ 1 :=
      ⟨by rintro ⟨_, _, _, ⟨⟩, h⟩; exact h, fun h => ⟨c, b, j, rfl, h⟩⟩
    have hc := Thermal.ofCode_eq_none (n := c.toNat)
    have hb := markOfCode_eq_none (n := b.toNat)
    have hj := markOfCode_eq_none (n := j.toNat)
    rw [parseLaneReport_bytes, hone]
    cases hthermal : Thermal.ofCode c.toNat with
    | none => simp [hc.1 hthermal]
    | some t =>
      cases hbin : markOfCode b.toNat with
      | none => simp [hb.1 hbin]
      | some m =>
        cases hjam : markOfCode j.toNat with
        | none => simp [hj.1 hjam]
        | some k =>
          simp only [hthermal, hbin, hjam, reduceCtorEq, false_iff, not_lt] at hc hb hj
          simp [hc, hb, hj]
  · have hnone : parseLaneReport p = none := by
      unfold parseLaneReport
      rw [fields_eq_none (ws := [1, 1, 1]) hlength]
    refine ⟨fun _ => ?_, fun _ => hnone⟩
    rintro ⟨c, b, j, rfl, -⟩
    exact hlength rfl

theorem parseLaneReport_laneReportBytes (c : Thermal) (out jam : Bool) :
    parseLaneReport (laneReportBytes c out jam) = some ⟨c, !out, jam⟩ := by
  have hcode : c.code < 256 ^ 1 := by cases c <;> decide
  have hmark : ∀ b : Bool, cond b 1 0 < 256 ^ 1 := by decide
  have hfields : fields [1, 1, 1] (laneReportBytes c out jam) =
      some [c.code, cond out 1 0, cond jam 1 0] := by
    unfold laneReportBytes markByte
    rw [List.append_assoc, fields_be _ _ hcode, fields_be _ _ (hmark out),
      ← List.append_nil (be 1 (cond jam 1 0)), fields_be _ _ (hmark jam)]
    rfl
  unfold parseLaneReport
  rw [hfields]
  dsimp only
  rw [Thermal.ofCode_code, markOfCode_cond, markOfCode_cond]

/-! ## Frames that are ignored -/

theorem live_ignored {f : State → State} {s : State} (h : f s = s) : live f s = .next s := by
  cases hr : s.resetAsserted
  · rw [live_released hr, h]
  · exact live_asserted hr

section
variable {src : Nat} {payload : List Byte} {s : State}

theorem execAnnounce_ignored (h : stationIx src = none ∨
    (oneByte payload).bind StationKind.ofCode = none ∨ ∃ st, stationIx src = some st ∧
      ((s.stations[st]).state = .off ∨ (s.stations[st]).state = .lost)) :
    execAnnounce src payload s = .next s := by
  refine live_ignored ?_
  split
  · next st k hst hk =>
    obtain ⟨st', hst', hstate⟩ := (h.resolve_left (by simp [hst])).resolve_left (by simp [hk])
    obtain rfl := Option.some.inj (hst.symm.trans hst')
    rcases hstate with hstate | hstate
    · rw [hstate]
    · rw [hstate]
  · rfl

theorem execItemReport_ignored (h : stationIx src = none ∨ parseReport payload = none) :
    execItemReport src payload s = .next s := by
  refine live_ignored ?_
  split
  · next hst hr => simp [hst, hr] at h
  · rfl

theorem execItemWithdraw_ignored (h : stationIx src = none ∨ oneByte payload = none) :
    execItemWithdraw src payload s = .next s := by
  refine live_ignored ?_
  split
  · next hst hseq => simp [hst, hseq] at h
  · rfl

theorem execSessionClose_ignored (h : stationIx src = none ∨
    (oneByte payload).bind Disposition.ofCode = none ∨ ∃ st, stationIx src = some st ∧
      ((s.stations[st]).state ≠ .operating ∧ (s.stations[st]).state ≠ .paused ∨
        ∀ x, s.current? st = some x → x.state ≠ .opened)) :
    execSessionClose src payload s = .next s := by
  refine live_ignored ?_
  split
  · next st d hst hd =>
    obtain ⟨st', hst', hclosed⟩ := (h.resolve_left (by simp [hst])).resolve_left (by simp [hd])
    obtain rfl := Option.some.inj (hst.symm.trans hst')
    split
    · next hstate hx => exact if_neg (hclosed.resolve_left (fun hn => hn.1 hstate) _ hx)
    · next hstate hx => exact if_neg (hclosed.resolve_left (fun hn => hn.2 hstate) _ hx)
    · rfl
  · rfl

theorem execRequestAccepted_ignored (h : src ≠ 14 ∨ parseTag payload = none) :
    execRequestAccepted src payload s = .next s := by
  refine live_ignored ?_
  split
  · next hsrc =>
    rw [h.resolve_left (by simpa [tillBridge] using hsrc)]
    split
    · next htag => cases htag
    · rfl
  · rfl

theorem execVoucherStatus_ignored
    (h : src ≠ 14 ∨ ∀ n g e l, s.transfer ≠ .running .status n g e l) :
    execVoucherStatus src payload s = .next s := by
  refine live_ignored ?_
  split
  · next hsrc =>
    split
    · next htransfer =>
      exact absurd htransfer (h.resolve_left (by simpa [tillBridge] using hsrc) _ _ _ _)
    · rfl
  · rfl

theorem execDropDone_ignored (h : laneIx src = none ∨ parseDropDone payload = none) :
    execDropDone src payload s = .next s := by
  refine live_ignored ?_
  split
  · next hi hr => simp [hi, hr] at h
  · rfl

theorem execLaneReport_ignored (h : laneIx src = none ∨ parseLaneReport payload = none) :
    execLaneReport src payload s = .next s := by
  refine live_ignored ?_
  split
  · next hi hr => simp [hi, hr] at h
  · rfl

end

/-- Settles O52. -/
theorem unfitFrameIsIgnored : Obligations.UnfitFrameIsIgnored := by
  unfold Obligations.UnfitFrameIsIgnored
  refine ⟨fun c src payload s h => ?_, fun seq number mass height sig bottles hseq hnumber hmass hheight
    hsig hbottles => ?_, fun p => ⟨fun h12 h14 => parseReport_eq_none h12 h14, ?_, parseTag_eq_none,
      parseDropDone_eq_none, parseLaneReport_eq_none⟩, fun h hpos hh =>
    ⟨parseDropDone_be hpos hh .pass, parseDropDone_be hpos hh .fail, parseTag_be hh⟩,
    parseLaneReport_laneReportBytes⟩
  · rcases h with ⟨rfl, h⟩ | ⟨rfl, h⟩ | ⟨rfl, h⟩ | ⟨rfl, h⟩ | ⟨rfl, h⟩ | ⟨rfl, h⟩ | ⟨rfl, h⟩ | ⟨rfl, h⟩
    · exact execAnnounce_ignored h
    · exact execItemReport_ignored h
    · exact execItemWithdraw_ignored h
    · exact execSessionClose_ignored h
    · exact execRequestAccepted_ignored h
    · exact execVoucherStatus_ignored h
    · exact execDropDone_ignored h
    · exact execLaneReport_ignored h
  · have hparse := parseReport_bytes hseq hnumber hmass hheight hsig hbottles
    exact ⟨fun hbad => hparse.trans (makeReport_of_bad hbad),
      fun hgood => hparse.trans (makeReport_of_good hgood)⟩
  · rfl

end Sys2Proof.Machine
end

section
/-! SUPPORT. What the ends of held items place on the front link and take from the counts of held items (R24,
R25, R44): a verdict each, and what follows the close of a session gives no verdict. -/

namespace Sys2Proof.Machine

-- One theorem after another: many that wait for the kernel at once take threads and memory.
set_option Elab.async false

/-! ## Frames of the front link -/

/-- What a port took is told by the port. -/
theorem Port.Took.unique {fs gs : List Frame} {p q : Port} (h : p.Took fs q) (k : p.Took gs q) :
    fs = gs := by
  obtain ⟨⟨new, hall, rfl⟩, -⟩ := h
  obtain ⟨⟨new', kall, rfl⟩, -⟩ := k
  rw [List.append_cancel_left (hall.symm.trans kall)]

theorem Port.Took.of_same {p q : Port} (h : q = p) : p.Took [] q := h ▸ .refl p

/-- What `g` tells of a session's record is told of every record that is left. -/
def Keeps {α : Type} (g : Session → α) (s t : State) : Prop :=
  ∀ n y, t.session? n = some y → ∃ x, s.session? n = some x ∧ g y = g x

section
variable {α : Type} {g : Session → α}

theorem Keeps.refl (s : State) : Keeps g s s := fun _ y hy => ⟨y, hy, rfl⟩

theorem Keeps.trans {s t u : State} (h : Keeps g s t) (k : Keeps g t u) : Keeps g s u := by
  intro n z hz
  obtain ⟨y, hy, hzy⟩ := k n z hz
  obtain ⟨x, hx, hyx⟩ := h n y hy
  exact ⟨x, hx, hzy.trans hyx⟩

theorem Keeps.of_same {s t : State} (hsessions : t.sessions = s.sessions) : Keeps g s t :=
  fun n y hy => ⟨y, (State.session?_of_same hsessions n).symm.trans hy, rfl⟩

/-- One record has changed, and it keeps its number and what `g` tells. -/
theorem Keeps.of_onSession {s t : State} {n : Nat} {f : Session → Session}
    (hsessions : t.sessions = (s.onSession n f).sessions) (hnumber : ∀ x, (f x).number = x.number)
    (hkept : ∀ x, g (f x) = g x) : Keeps g s t := by
  intro m y hy
  rw [State.session?_of_same hsessions, State.onSession_lookup s n hnumber] at hy
  split at hy
  · next hm =>
    obtain ⟨x, hx, rfl⟩ := Option.map_eq_some_iff.1 hy
    exact ⟨x, hm ▸ hx, hkept x⟩
  · exact ⟨y, hy, rfl⟩

theorem Keeps.freeSession (s : State) (n : Nat) : Keeps g s (s.freeSession n) := by
  intro m y hy
  rw [State.freeSession_session?] at hy
  split at hy
  · cases hy
  · exact ⟨y, hy, rfl⟩

theorem Keeps.comp {β : Type} (k : α → β) {s t : State} (h : Keeps g s t) : Keeps (fun x => k (g x)) s t := by
  intro n y hy
  obtain ⟨x, hx, hyx⟩ := h n y hy
  exact ⟨x, hx, congrArg k hyx⟩

end

/-- The counts of held items are the same, and so is the count of each session that is left. -/
structure HeldSame (s t : State) : Prop where
  counts : t.heldCounts = s.heldCounts
  held : Keeps Session.held s t

theorem HeldSame.refl (s : State) : HeldSame s s := ⟨rfl, .refl s⟩

theorem HeldSame.trans {s t u : State} (h : HeldSame s t) (k : HeldSame t u) : HeldSame s u :=
  ⟨k.counts.trans h.counts, h.held.trans k.held⟩

theorem HeldSame.of_same {s t : State} (hcounts : t.heldCounts = s.heldCounts := by rfl)
    (hsessions : t.sessions = s.sessions := by rfl) : HeldSame s t :=
  ⟨hcounts, .of_same hsessions⟩

/-- No verdict is given, no count of held items changes, and no credit. -/
structure Quietly (s t : State) : Prop where
  counts : t.heldCounts = s.heldCounts
  keeps : Keeps (fun x => (x.held, x.credit)) s t
  frames : ∃ fs, s.front.Took fs t.front ∧ fs.filterMap Frame.verdict? = []

theorem Quietly.heldSame {s t : State} (h : Quietly s t) : HeldSame s t :=
  ⟨h.counts, h.keeps.comp Prod.fst⟩

theorem Quietly.trans {s t u : State} (h : Quietly s t) (k : Quietly t u) : Quietly s u := by
  obtain ⟨fs, hfs, hnone⟩ := h.frames
  obtain ⟨gs, hgs, knone⟩ := k.frames
  exact ⟨k.counts.trans h.counts, h.keeps.trans k.keeps, fs ++ gs, hfs.trans hgs,
    by rw [List.filterMap_append, hnone, knone]; rfl⟩

/-- What is quiet may follow a change of records. -/
theorem Quietly.behind {s t u : State} (k : Quietly t u)
    (hkeeps : Keeps (fun x => (x.held, x.credit)) s t)
    (hcounts : t.heldCounts = s.heldCounts := by rfl) (hfront : t.front = s.front := by rfl) :
    Quietly s u := Quietly.trans ⟨hcounts, hkeeps, [], .of_same hfront, rfl⟩ k

theorem Quietly.refl (s : State) : Quietly s s := ⟨rfl, .refl s, [], .refl _, rfl⟩

theorem Quietly.place {f : Frame} (hlink : f.link = .front) (hverdict : f.verdict? = none) (s : State) :
    Quietly s (s.place f) :=
  ⟨rfl, .of_same rfl, [f], (State.place_sends_front hlink s).front, by simp [hverdict]⟩

/-! ## What follows a close -/

section
variable (s : State)

theorem State.deliver_quietly (n : Nat) : Quietly s (s.deliver n) := by
  unfold State.deliver
  split
  · exact .refl s
  · split
    · exact (Quietly.place rfl rfl s).trans ((Quietly.refl _).behind (.freeSession _ _))
    · exact (Quietly.refl _).behind (.of_onSession rfl (fun _ => rfl) fun _ => rfl)

theorem State.beginRequest_quietly (n : Nat) : Quietly s (s.beginRequest n) := by
  have hrequest (t : State) (tag : Nat) : Quietly t (t.enterRequest n tag) := by
    unfold State.enterRequest
    split
    · exact .refl _
    · exact (Quietly.place rfl rfl _).behind (.of_same rfl)
  exact (hrequest _ _).behind (.of_onSession rfl (fun _ => rfl) fun _ => rfl)

theorem State.startTransfer_quietly : Quietly s s.startTransfer := by
  unfold State.startTransfer
  split
  · exact State.beginRequest_quietly s _
  · exact .refl s

theorem State.completeClose_quietly (n : Nat) : Quietly s (s.completeClose n) := by
  unfold State.completeClose
  split
  · exact .refl s
  · split
    · exact (State.deliver_quietly _ n).behind (.of_onSession rfl (fun _ => rfl) fun _ => rfl)
    · split
      · exact (State.deliver_quietly _ n).behind (.of_onSession rfl (fun _ => rfl) fun _ => rfl)
      all_goals
        exact (State.startTransfer_quietly _).behind (.of_onSession rfl (fun _ => rfl) fun _ => rfl)

theorem State.settle_quietly (n : Nat) : Quietly s (s.settle n) := by
  unfold State.settle
  split
  · split
    · exact State.completeClose_quietly s n
    · exact .refl s
  · exact .refl s

end

/-! ## Counts of held items (R25) -/

theorem HeldFall.trans {ws vs : List Waiting} {s t u : State} (h : HeldFall ws s t)
    (k : HeldFall vs t u) : HeldFall (ws ++ vs) s u := by
  refine ⟨fun st => ?_, fun n z hz => ?_⟩
  · rw [k.1, h.1, List.countP_append, Nat.sub_sub]
  · obtain ⟨y, hy, hzy⟩ := k.2 n z hz
    obtain ⟨x, hx, hyx⟩ := h.2 n y hy
    exact ⟨x, hx, by rw [hzy, hyx, List.countP_append, Nat.sub_sub]⟩

theorem HeldSame.fall {s t : State} (h : HeldSame s t) : HeldFall [] s t :=
  ⟨fun st => by rw [h.counts]; rfl, h.held⟩

theorem State.unhold_fall (w : Waiting) (s : State) : HeldFall [w] s (s.unhold w) := by
  refine ⟨fun st => ?_, fun n y hy => ?_⟩
  · have hset : (s.unhold w).heldCounts =
      s.heldCounts.set w.station.val (s.heldCounts[w.station] - 1) w.station.isLt := rfl
    rw [get_of_set hset, List.countP_singleton]
    by_cases hst : w.station = st
    · subst hst; simp
    · simp [hst]
  · have hfind := (State.recount_session? w (· - 1) s n).symm.trans hy
    rw [List.countP_singleton]
    by_cases hn : n = w.session
    · rw [if_pos hn] at hfind
      obtain ⟨x, hx, rfl⟩ := Option.map_eq_some_iff.1 hfind
      exact ⟨x, hn ▸ hx, by simp [hn]⟩
    · rw [if_neg hn] at hfind
      exact ⟨y, hfind, by simp [Ne.symm hn]⟩

theorem State.releaseItem_fall (w : Waiting) (s : State) : HeldFall [w] s (s.releaseItem w) :=
  (State.unhold_fall w s).trans (State.settle_quietly _ w.session).heldSame.fall

/-- Each item that is ended takes one from the counts of its station and its session. -/
theorem State.endItems_fall {verdict : Waiting → State → State}
    (hv : ∀ w t, HeldSame t (verdict w t)) (ws : List Waiting) (s : State) :
    HeldFall ws s (s.endItems verdict ws) := by
  induction ws generalizing s with
  | nil => exact (HeldSame.refl s).fall
  | cons w ws ih => exact ((hv w s).fall.trans (State.releaseItem_fall w _)).trans (ih _)

/-! ## Verdicts -/

/-- The verdict `v` is given and no other, and no count of held items changes. -/
structure Gives (v : Nat × Verdict) (s t : State) : Prop where
  same : HeldSame s t
  frames : ∃ fs, s.front.Took fs t.front ∧ fs.filterMap Frame.verdict? = [v]

theorem Gives.place {s t : State} (h : HeldSame s t) (st : Nat) (v : Verdict)
    (hfront : t.front = s.front := by rfl) : Gives (st, v) s (t.place (.verdict st v)) :=
  ⟨h.trans .of_same, [.verdict st v], hfront ▸ (State.place_sends_front rfl t).front, rfl⟩

/-- While an invariant lets every item get a right verdict, the items of a list get one each, in the order
of the list. -/
theorem State.endItems_gives {verdict : Waiting → State → State} {inv : List Waiting → State → Prop}
    {right : Waiting → Nat × Verdict → Prop}
    (hstep : ∀ w ws t, inv (w :: ws) t →
      (∃ v, Gives v t (verdict w t) ∧ right w v) ∧ inv ws ((verdict w t).releaseItem w))
    {ws : List Waiting} {s : State} (h : inv ws s) :
    ∃ fs, s.front.Took fs (s.endItems verdict ws).front ∧
      List.Forall₂ right ws (fs.filterMap Frame.verdict?) := by
  induction ws generalizing s with
  | nil => exact ⟨[], .refl _, .nil⟩
  | cons w ws ih =>
    obtain ⟨⟨v, hgives, hright⟩, hnext⟩ := hstep w ws s h
    obtain ⟨fs, hfs, hv⟩ := hgives.frames
    obtain ⟨ks, hks, hnone⟩ := (State.settle_quietly ((verdict w s).unhold w) w.session).frames
    obtain ⟨gs, hgs, hrest⟩ := ih hnext
    refine ⟨fs ++ ks ++ gs, (hfs.trans hks).trans hgs, ?_⟩
    rw [List.filterMap_append, List.filterMap_append, hv, hnone]
    exact .cons hright hrest

/-- The frames of a list of verdicts go to the front link. -/
theorem State.endItems_took {verdict : Waiting → State → State}
    (hv : ∀ w (t : State), ∃ fs, t.front.Took fs (verdict w t).front) (ws : List Waiting) (s : State) :
    ∃ fs, s.front.Took fs (s.endItems verdict ws).front := by
  induction ws generalizing s with
  | nil => exact ⟨[], .refl _⟩
  | cons w ws ih =>
    obtain ⟨fs, hfs⟩ := hv w s
    obtain ⟨ks, hks, -⟩ := (State.settle_quietly ((verdict w s).unhold w) w.session).frames
    obtain ⟨gs, hgs⟩ := ih ((verdict w s).releaseItem w)
    exact ⟨_, (hfs.trans hks).trans hgs⟩

/-- A final verdict is any but a HOLD. -/
theorem Frame.final?_eq (f : Frame) : f.final? = f.verdict?.bind fun p =>
    if p.2.kind = .hold then none else some (p.1, p.2.seq, p.2.kind) := by
  cases f <;> rfl

theorem filterMap_final? (fs : List Frame) : fs.filterMap Frame.final? =
    (fs.filterMap Frame.verdict?).filterMap fun p =>
      if p.2.kind = .hold then none else some (p.1, p.2.seq, p.2.kind) := by
  rw [List.filterMap_filterMap]
  exact List.filterMap_congr fun f _ => Frame.final?_eq f

/-- Verdicts that are no HOLDs are final verdicts. -/
theorem FinalVerdicts.of_verdicts {ws : List Waiting} {right : Waiting → VerdictKind → Prop}
    {fs : List Frame} (h : List.Forall₂ (fun w (p : Nat × Verdict) => p.1 = stationNo w.station ∧
      p.2.seq = w.report.seq ∧ p.2.kind ≠ .hold ∧ right w p.2.kind) ws (fs.filterMap Frame.verdict?)) :
    FinalVerdicts ws right fs := by
  unfold FinalVerdicts
  rw [filterMap_final?]
  generalize fs.filterMap Frame.verdict? = vs at h
  induction h with
  | nil => exact .nil
  | cons hp _ ih =>
    obtain ⟨hstation, hseq, hkind, hright⟩ := hp
    rw [List.filterMap_cons, if_neg hkind]
    exact .cons ⟨hstation, hseq, hright⟩ ih

end Sys2Proof.Machine
end

section
/-! PROOFS. The final RETURNs of the items of a record: REFERRAL EXPIRY, and DECIDE RETURN of REFERRAL ANSWER
(R24, R25, R44, R53, R56). -/

namespace Sys2Proof.Machine

-- One theorem after another: many that wait for the kernel at once take threads and memory.
set_option Elab.async false

/-! ## The verdict of an item -/

/-- By the links a current session is the current session of its station. -/
theorem Linked.current?_eq {H : List Waiting} {out : Nat → Prop} {s : State} (h : Linked H out s)
    {n : Nat} {x : Session} (hx : s.session? n = some x) (hcurrent : x.isCurrent = true) :
    s.current? x.station = some x := by
  have hfound : (s.current? x.station).isSome := List.find?_isSome.2
    ⟨x, State.mem_of_session? hx, by simp [hcurrent]⟩
  obtain ⟨y, hy⟩ := Option.isSome_iff_exists.1 hfound
  obtain ⟨-, hstation, hcurrent'⟩ := State.current?_spec hy
  have hy' := h.session?_of_current? hy
  have hn := h.seats.unique _ _ y x hy' hx hcurrent' hcurrent hstation
  rw [hy, ← hx, ← hn, hy']

/-- By the links the RETURN of a station names the session of its held item. -/
theorem returnVerdict_eq_waitingReturn {H : List Waiting} {s : State} {w : Waiting}
    (h : Linked H noSession s) (hw : w ∈ H) (r : ReturnReason) :
    returnVerdict s w.station w.report.seq r =
      .verdict (waitingReturn s r w).1 (waitingReturn s r w).2 := by
  obtain ⟨x, hx, hstation, hcurrent⟩ := h.seats.owner w hw
  have hcurrent? := h.current?_eq hx hcurrent
  rw [hstation] at hcurrent?
  rw [returnVerdict, waitingReturn, hcurrent?, hx, Option.map_some, Option.map_some,
    State.session?_number hx]

/-- The final RETURN of a held item; by the links it names the session of the item. -/
theorem State.returnWaiting_gives (r : ReturnReason) (w : Waiting) (t : State) :
    ∃ v, Gives v t (State.returnWaiting r w t) ∧
      (v.1 = stationNo w.station ∧ v.2.seq = w.report.seq ∧ v.2.kind = .returned r) ∧
      ∀ H, Linked (w :: H) noSession t → v = waitingReturn t r w := by
  refine ⟨_, Gives.place (t := t.countReturn r) .of_same _ _, ⟨rfl, rfl, rfl⟩, fun H h => ?_⟩
  injection returnVerdict_eq_waitingReturn h List.mem_cons_self r with hstation hverdict
  exact Prod.ext hstation hverdict

theorem State.releaseItem_keeps_credit (w : Waiting) (s : State) :
    Keeps Session.credit s (s.releaseItem w) :=
  Keeps.trans (t := s.unhold w)
    (.of_onSession (s := s) (n := w.session) (f := fun x => { x with held := x.held - 1 }) rfl
      (fun _ => rfl) fun _ => rfl)
    ((State.settle_quietly _ w.session).keeps.comp Prod.snd)

/-- The verdict of an item tells a credit that stays while others end. -/
theorem waitingReturn_of_keeps {H : List Waiting} {s t : State} {w : Waiting} (r : ReturnReason)
    (h : Linked (w :: H) noSession t) (hkeeps : Keeps Session.credit s t) :
    waitingReturn t r w = waitingReturn s r w := by
  obtain ⟨y, hy, -, -⟩ := h.seats.owner w List.mem_cons_self
  obtain ⟨x, hx, hcredit⟩ := hkeeps _ y hy
  rw [waitingReturn, waitingReturn, hy, hx, Option.map_some, Option.map_some, hcredit]

/-- The items of a list get their final RETURNs, in the order of the list (R44). -/
theorem State.endItems_return_verdicts (r : ReturnReason) (ws : List Waiting) (s : State) :
    ∃ fs, s.front.Took fs (s.endItems (State.returnWaiting r) ws).front ∧
      FinalVerdicts ws (fun _ k => k = .returned r) fs ∧
      ∀ H, Linked (ws ++ H) noSession s →
        fs.filterMap Frame.verdict? = ws.map (waitingReturn s r) := by
  obtain ⟨fs, hfs, hright⟩ := State.endItems_gives (inv := fun _ _ => True)
    (fun w _ t _ => ⟨(State.returnWaiting_gives r w t).imp fun _ h => ⟨h.1, h.2.1⟩, trivial⟩)
    (ws := ws) (s := s) trivial
  refine ⟨fs, hfs, .of_verdicts (hright.imp fun w v ⟨hstation, hseq, hkind⟩ =>
    ⟨hstation, hseq, by rw [hkind]; exact nofun, hkind⟩), fun H h => ?_⟩
  obtain ⟨gs, hgs, hexact⟩ := State.endItems_gives
    (inv := fun ws t => Linked (ws ++ H) noSession t ∧ Keeps Session.credit s t)
    (right := fun w v => v = waitingReturn s r w) (verdict := State.returnWaiting r)
    (fun w ws t ⟨hlinked, hkeeps⟩ => by
      obtain ⟨v, hgives, -, hv⟩ := State.returnWaiting_gives r w t
      refine ⟨⟨v, hgives, (hv _ hlinked).trans (waitingReturn_of_keeps r hlinked hkeeps)⟩, ?_, ?_⟩
      · exact State.releaseItem_linked ((State.returnWaiting_final r).linked w t _ hlinked)
      · exact (hkeeps.trans (.of_same rfl)).trans (State.releaseItem_keeps_credit w _))
    (ws := ws) (s := s) ⟨h, .refl s⟩
  rw [hfs.unique hgs]
  have hmap : List.Forall₂ Eq (gs.filterMap Frame.verdict?) (ws.map (waitingReturn s r)) :=
    List.forall₂_map_right_iff.2 hexact.flip
  rwa [List.forall₂_eq_eq_eq] at hmap

/-! ## What the ends leave -/

/-- `t` differs from `s` at most in what the final RETURNs of held items, and the freeing of their record, may
change. -/
def ReturnOnly (s t : State) : Prop :=
  t = { s with serial := t.serial, front := t.front, referrals := t.referrals,
               heldCounts := t.heldCounts, sessions := t.sessions, awaiting := t.awaiting,
               voucherQueue := t.voucherQueue, transfer := t.transfer, tagCounter := t.tagCounter,
               totals := t.totals, returned := t.returned }

theorem ReturnOnly.trans {s t u : State} (h : ReturnOnly s t) (k : ReturnOnly t u) :
    ReturnOnly s u := by
  unfold ReturnOnly at *
  rw [k, h]

theorem SessionOnly.returnOnly {s t : State} (h : SessionOnly s t) : ReturnOnly s t := by
  unfold SessionOnly ReturnOnly at *
  rw [h]

theorem State.endItems_returnOnly (r : ReturnReason) (ws : List Waiting) (s : State) :
    ReturnOnly s (s.endItems (State.returnWaiting r) ws) := by
  induction ws generalizing s with
  | nil => rfl
  | cons w ws ih =>
    have hunheld : ReturnOnly s ((State.returnWaiting r w s).unhold w) := rfl
    exact (hunheld.trans (State.settle_sessionOnly w.session _).returnOnly).trans (ih _)

/-- The reason is counted once for each item (R153, R154). -/
theorem State.endItems_returned (r : ReturnReason) (ws : List Waiting) {s : State}
    (h : s.returned[r.index] ≤ Config.maxCount) :
    (s.endItems (State.returnWaiting r) ws).returned = s.returned.set r.index.val
      (min (s.returned[r.index] + ws.length) Config.maxCount) r.index.isLt := by
  induction ws generalizing s with
  | nil =>
    rw [List.length_nil, Nat.add_zero, Nat.min_eq_left h]
    exact set_same rfl r.index
  | cons w ws ih =>
    have hfirst : ((State.returnWaiting r w s).releaseItem w).returned = s.returned.set r.index.val
        (riseCount s.returned[r.index] 1) r.index.isLt := by
      rw [State.releaseItem, State.settle_sessionOnly w.session _]
      rfl
    have hget := get_of_set hfirst r.index
    rw [if_pos rfl] at hget
    rw [State.endItems_cons, ih (hget.trans_le (Nat.min_le_right _ _)), hget, hfirst, Vector.set_set,
      List.length_cons]
    congr 1
    unfold riseCount
    omega

/-! ## OPEN sessions -/

/-- A transfer that starts concerns a session of the voucher queue. -/
theorem State.startTransfer_session? {s : State} {m : Nat} (hm : m ∉ s.voucherQueue) :
    s.startTransfer.session? m = s.session? m := by
  unfold State.startTransfer
  split
  · next n rest _ hqueue =>
    have hmn : m ≠ n := fun h => hm (by simp [hqueue, h])
    have hissued := State.onSession_session?_of_ne { s with tagCounter := nextNumber 65535 s.tagCounter }
      (fun x => { x with state := .issuing, issueTag := some (nextNumber 65535 s.tagCounter) })
      (fun _ => rfl) hmn
    unfold State.beginRequest State.enterRequest
    dsimp only
    split <;> exact hissued
  · rfl

/-- Where a close completes, a session of another number stays unless it waits in the voucher queue. -/
theorem State.completeClose_session? {s : State} {m n : Nat} (hmn : m ≠ n) (hm : m ∉ s.voucherQueue) :
    (s.completeClose n).session? m = s.session? m := by
  have hedit (t : State) (f : Session → Session) (hnumber : ∀ x, (f x).number = x.number) :
      (t.onSession n f).session? m = t.session? m := State.onSession_session?_of_ne t f hnumber hmn
  have hdeliver (t : State) : (t.deliver n).session? m = t.session? m := by
    unfold State.deliver
    split
    · rfl
    · next x hx =>
      split
      · rw [State.sendResult, State.freeSession_session?, State.session?_number hx, if_neg hmn]
        rfl
      · exact hedit t (fun x => { x with state := .awaitPrint }) fun _ => rfl
  unfold State.completeClose
  split
  · rfl
  · split
    · exact (hdeliver _).trans (hedit s (fun x => { x with outcome := some .nothing }) fun _ => rfl)
    · split
      · exact (hdeliver _).trans (hedit s (fun x => { x with outcome := some .donated }) fun _ => rfl)
      all_goals
        refine Eq.trans ?_ (hedit s (fun x => { x with state := .queued }) fun _ => rfl)
        exact State.startTransfer_session? (by simp [hm, hmn])

theorem Linked.opened_not_queued {H : List Waiting} {out : Nat → Prop} {s : State} {n : Nat} {x : Session}
    (h : Linked H out s) (hx : s.session? n = some x) (hopened : x.state = .opened) :
    n ∉ s.voucherQueue := by
  rw [h.queue.queued, State.phase?_eq hx, hopened]
  simp

/-- An OPEN session stays while an item is released, but for its count of held items. -/
theorem State.releaseItem_opened {H : List Waiting} {out : Nat → Prop} {s : State} {w : Waiting} {n : Nat}
    {x : Session} (h : Linked H out s) (hx : s.session? n = some x) (hopened : x.state = .opened) :
    (s.releaseItem w).session? n =
      some { x with held := x.held - if w.session = n then 1 else 0 } := by
  have hunheld : (s.unhold w).session? n =
      some { x with held := x.held - if w.session = n then 1 else 0 } := by
    refine (State.recount_session? w (· - 1) s n).trans ?_
    by_cases hn : n = w.session
    · rw [if_pos hn, ← hn, hx, if_pos rfl]; rfl
    · rw [if_neg hn, if_neg (Ne.symm hn), hx]; rfl
  rw [State.releaseItem, ← hunheld]
  unfold State.settle
  split
  · next y hy =>
    split
    · next hclosing =>
      refine State.completeClose_session? (fun hn => ?_) (h.opened_not_queued hx hopened)
      rw [← hn, hunheld] at hy
      cases hy
      simp [hopened] at hclosing
    · rfl
  · rfl

theorem State.endItems_return_opened (r : ReturnReason) {ws H : List Waiting} {s : State} {n : Nat}
    {x : Session} (h : Linked (ws ++ H) noSession s) (hx : s.session? n = some x)
    (hopened : x.state = .opened) : (s.endItems (State.returnWaiting r) ws).session? n =
      some { x with held := x.held - ws.countP fun w => w.session == n } := by
  induction ws generalizing s x with
  | nil => exact hx
  | cons w ws ih =>
    have hreturned := (State.returnWaiting_final r).linked w s _ h
    have hfirst := State.releaseItem_opened (w := w) hreturned hx hopened
    rw [State.endItems_cons, ih (State.releaseItem_linked hreturned) hfirst hopened, List.countP_cons,
      Nat.sub_sub, Nat.add_comm (if w.session = n then 1 else 0)]
    simp

end Sys2Proof.Machine
end

section
/-! PROOFS. REFERRAL EXPIRY (R53). -/

namespace Sys2Proof.Machine

-- One theorem after another: many that wait for the kernel at once take threads and memory.
set_option Elab.async false

/-- The items of a record are held, before those of the other records. -/
theorem Linked.of_record {s : State} {n : Nat} {r : Referral} (hs : SessionsOk s) (hl : LinkedOk s)
    (hr : s.referral? n = some r) :
    Linked (r.waiting ++ itemsOf (s.referrals.erase r)) noSession s :=
  ((linkedOk_iff hs).1 hl).perm
    ((List.perm_cons_erase (State.referral?_spec hr).1).flatMap_right Referral.waiting)

/-- Settles O23: the list of verdicts is that of `State.endItems_return_verdicts`, and the record is freed
after it. -/
theorem expiredReferralReturnsItsItems : Obligations.ExpiredReferralReturnsItsItems := by
  unfold Obligations.ExpiredReferralReturnsItsItems
  intro number r s hreset hcounters hr hexpired
  have hexec : exec (.referralExpiry number) s =
      .next (((s.endItems (State.returnWaiting .referTimeout) r.waiting).freeReferral number).notify
        (.referralEnded number .timeout)) := by
    refine Eq.trans (b := execReferralExpiry number s) rfl ?_
    unfold execReferralExpiry
    rw [live_released hreset, hr]
    exact congrArg _ (if_pos hexpired)
  obtain ⟨pre, htook, hfinal, hexact⟩ :=
    State.endItems_return_verdicts .referTimeout r.waiting s
  obtain ⟨-, -, hcounts⟩ := hcounters
  refine ⟨_, pre, hexec, ?_, ?_, hfinal, ?_, ?_, ?_, ?_⟩
  · exact congrArg (List.filter (·.number != number))
      (State.endItems_referrals (State.returnWaiting_final _) r.waiting s)
  · exact State.endItems_returned .referTimeout r.waiting (hcounts _)
  · exact State.endItems_fall (fun _ _ => .of_same) r.waiting s
  · intro hs hl
    have hlinked := Linked.of_record hs hl hr
    exact ⟨hexact _ hlinked, fun x hx hopened =>
      State.endItems_return_opened .referTimeout hlinked (hs.known x hx) hopened⟩
  · exact htook.trans (State.notify_sends _ _).front
  · exact (State.endItems_returnOnly .referTimeout r.waiting s).trans rfl

end Sys2Proof.Machine
end

section
/-! SUPPORT. Acceptances at the front link and in the counters: what steps 7, 9 and 10 change, the frames that
they place, and the verdict that they give (R37, R38, R41, R100). -/

namespace Sys2Proof.Machine

-- One theorem after another: many that wait for the kernel at once take threads and memory.
set_option Elab.async false

/-! ## What an acceptance changes -/

/-- `t` differs from `s` at most in what an acceptance changes. -/
def AcceptOnly (s t : State) : Prop :=
  t = { s with serial := t.serial, front := t.front, back := t.back, sessions := t.sessions,
               lastHandle := t.lastHandle, lanes := t.lanes, pipes := t.pipes, strokes := t.strokes,
               pointer := t.pointer, rows := t.rows, totals := t.totals }

theorem AcceptOnly.trans {s t u : State} (h : AcceptOnly s t) (k : AcceptOnly t u) :
    AcceptOnly s u := by
  unfold AcceptOnly at *
  rw [k, h]

theorem PipeOnly.acceptOnly {s t : State} (h : PipeOnly s t) : AcceptOnly s t := by
  unfold PipeOnly AcceptOnly at *
  rw [h]

/-- The counts of an accepted item are in its cells and in the totals of its residue and its foreign
bottles. -/
theorem State.countAccepted_eq (a : Accept) (own bottle : Nat) (s : State) :
    s.countAccepted a own bottle = { s with
      rows := (s.countCells a own bottle).rows
      totals := (s.totals.residue (cond a.item.residue 1 0)).foreign a.foreign } := by
  unfold State.countAccepted State.countCells
  dsimp only
  split
  · rfl
  · split
    · rfl
    · split <;> rfl

/-- A test of the nearly-full mark gives one notice at most (R100). -/
theorem State.testNearlyFull_eq (i : Fin 12) (s : State) :
    s.testNearlyFull i = s.setLane i (s.lanes[i]).marked ∨
    ∃ k, s.testNearlyFull i = (s.setLane i (s.lanes[i]).marked).notify k := by
  unfold State.testNearlyFull
  dsimp only
  split
  · exact .inr ⟨_, rfl⟩
  · exact .inl rfl

theorem State.reserve_acceptOnly (i : Fin 12) (f : Nat) (s : State) : AcceptOnly s (s.reserve i f) := by
  unfold State.reserve
  rcases State.testNearlyFull_eq i
    (s.setLane i { s.lanes[i] with reserved := (s.lanes[i]).reserved + f }) with h | ⟨k, h⟩
  all_goals rw [h]; rfl

theorem State.reserve_front (i : Fin 12) (f : Nat) (s : State) :
    ∃ pre, (pre = [] ∨ ∃ k, pre = [.notice k]) ∧ s.front.Took pre (s.reserve i f).front := by
  unfold State.reserve
  rcases State.testNearlyFull_eq i
    (s.setLane i { s.lanes[i] with reserved := (s.lanes[i]).reserved + f }) with h | ⟨k, h⟩
  · exact ⟨[], .inl rfl, h ▸ .refl _⟩
  · exact ⟨_, .inr ⟨k, rfl⟩, h ▸ (State.notify_sends k _).front⟩

section
variable (a : Accept) (x : Session) (i : Fin 12) (fill : Nat) (s : State)

/-- The state in which the VERDICT of an acceptance is placed. -/
def State.accepted : State :=
  ({ s.sessionAdd a x with lastHandle := s.nextHandle }.appendOrder i
    { handle := s.nextHandle, fill, kind := a.kind, station := a.item.station }).countAccepted a
      (min (s.credited a x) (s.ownPortion a))
      (s.credited a x - min (s.credited a x) (s.ownPortion a))

theorem State.accept_eq : s.accept a x i fill = (s.accepted a x i fill).place
    (.verdict (stationNo a.item.station) (acceptVerdict a x (s.itemCredit a) (s.credited a x))) := rfl

theorem State.accepted_acceptOnly : AcceptOnly s (s.accepted a x i fill) := by
  unfold State.accepted
  rw [State.countAccepted_eq]
  refine AcceptOnly.trans (t := State.appendOrder i _ _) (AcceptOnly.trans ?_
    (State.appendOrder_pipeOnly i _ _).acceptOnly) rfl
  exact rfl

theorem State.accepted_front : (s.accepted a x i fill).front = s.front := by
  unfold State.accepted
  rw [State.countAccepted_eq, State.appendOrder_pipeOnly i _ _]
  rfl

theorem State.accept_acceptOnly : AcceptOnly s (s.accept a x i fill) :=
  (State.accepted_acceptOnly a x i fill s).trans rfl

theorem State.accept_sessions : (s.accept a x i fill).sessions = (s.sessionAdd a x).sessions := by
  have h := State.accept_hall a x i fill s
  simp only [State.hall, Prod.mk.injEq] at h
  obtain ⟨-, -, hsessions, -⟩ := h
  exact hsessions

theorem State.accept_gives : Gives (stationNo a.item.station,
    acceptVerdict a x (s.itemCredit a) (s.credited a x)) s (s.accept a x i fill) := by
  rw [State.accept_eq]
  refine Gives.place ⟨?_, ?_⟩ _ _ (State.accepted_front a x i fill s)
  · rw [State.accepted_acceptOnly a x i fill s]
  · exact Keeps.of_onSession (n := x.number) (State.accept_sessions a x i fill s) (fun _ => rfl)
      fun _ => rfl

end

end Sys2Proof.Machine
end

section
/-! SUPPORT. The verdicts of items that a REFERRAL ANSWER resumes (R44 to R46), and the rule for the end of
their list. -/

namespace Sys2Proof.Machine

-- One theorem after another: many that wait for the kernel at once take threads and memory.
set_option Elab.async false

/-! ## One item -/

/-- The final verdict of an item is given, and its kind is right. -/
def Answers (w : Waiting) (right : VerdictKind → Prop) (s t : State) : Prop :=
  ∃ v, Gives v s t ∧ v.1 = stationNo w.station ∧ v.2.seq = w.report.seq ∧ v.2.kind ≠ .hold ∧
    right v.2.kind

theorem Answers.imp {w : Waiting} {right right' : VerdictKind → Prop} {s t : State}
    (h : Answers w right s t) (himp : ∀ k, right k → right' k) : Answers w right' s t := by
  obtain ⟨v, hgives, hstation, hseq, hkind, hright⟩ := h
  exact ⟨v, hgives, hstation, hseq, hkind, himp _ hright⟩

theorem State.returnItem_answers (w : Waiting) (r : ReturnReason) (s : State) :
    Answers w (· = .returned r) s (s.returnItem w.station w.report.seq r) :=
  ⟨_, Gives.place (t := s.countReturn r) .of_same _ _, rfl, rfl, nofun, rfl⟩

/-- Frames go to the front link, and no count of held items changes. -/
structure Bears (s t : State) : Prop where
  same : HeldSame s t
  took : ∃ fs, s.front.Took fs t.front

theorem Answers.bears {w : Waiting} {right : VerdictKind → Prop} {s t : State}
    (h : Answers w right s t) : Bears s t := by
  obtain ⟨v, hgives, -⟩ := h
  exact ⟨hgives.same, hgives.frames.imp fun _ h => h.1⟩

theorem Bears.refl (s : State) : Bears s s := ⟨.refl s, [], .refl _⟩

/-- What is quiet may come before a verdict. -/
theorem Gives.after {v : Nat × Verdict} {s t u : State} (h : Quietly s t) (k : Gives v t u) :
    Gives v s u := by
  obtain ⟨fs, hfs, hnone⟩ := h.frames
  obtain ⟨gs, hgs, hv⟩ := k.frames
  exact ⟨h.heldSame.trans k.same, fs ++ gs, hfs.trans hgs, by rw [List.filterMap_append, hnone, hv]; rfl⟩

theorem State.reserve_quietly (i : Fin 12) (f : Nat) (s : State) : Quietly s (s.reserve i f) := by
  obtain ⟨pre, hpre, htook⟩ := State.reserve_front i f s
  have hlane := State.reserve_laneOnly i f s
  refine ⟨by rw [hlane], .of_same (by rw [hlane]), pre, htook, ?_⟩
  rcases hpre with rfl | ⟨k, rfl⟩ <;> rfl

/-- The verdict of an accepted item, by its credit decision; or the want of room (R38, R40, R41). -/
def CapKind (credit : Bool) (k : VerdictKind) : Prop :=
  k = (if credit then .credit else .take) ∨ k = .returned .sessionFull ∨ k = .returned .cornerFull

theorem State.fromCap_answers {a : Accept} {x : Session} {s : State}
    (hx : s.session? a.item.session = some x) :
    Answers a.item (CapKind a.credit) s (s.fromCap a) := by
  unfold State.fromCap
  rw [hx]
  dsimp only
  split
  · exact (State.returnItem_answers a.item .sessionFull s).imp fun _ h => .inr (.inl h)
  · split
    · exact (State.returnItem_answers a.item .cornerFull s).imp fun _ h => .inr (.inr h)
    · next i _ =>
      refine ⟨_, (State.accept_gives a x i _ _).after (State.reserve_quietly i _ s), rfl, rfl, ?_,
        .inl rfl⟩
      unfold acceptVerdict
      cases a.credit <;> exact nofun

theorem State.fromCap_bears (a : Accept) (s : State) : Bears s (s.fromCap a) := by
  cases hx : s.session? a.item.session with
  | some x => exact (State.fromCap_answers hx).bears
  | none =>
    have hnone : s.fromCap a = s := by unfold State.fromCap; rw [hx]
    rw [hnone]
    exact .refl s

/-- An item resumed after an ENTRY answer gets a RETURN that its steps give, or goes on at step 7 (R45). -/
theorem State.resumeEntry_cases (article : Nat) (w : Waiting) (s : State) :
    (∃ r, State.resumeEntry article w s = s.returnItem w.station w.report.seq r ∧
      EntryKind s.articles s.keys article w (.returned r)) ∨
    ∃ a, State.resumeEntry article w s = s.fromCap a ∧ a.item.station = w.station ∧
      a.item.session = w.session ∧ a.item.report = w.report ∧
      ∀ k, CapKind a.credit k → EntryKind s.articles s.keys article w k := by
  unfold State.resumeEntry State.fromLookup EntryKind
  cases lookup s.articles article with
  | none => exact .inl ⟨_, rfl, rfl⟩
  | some e =>
    dsimp only
    cases plausibility e w.report with
    | error r => exact .inl ⟨_, rfl, rfl⟩
    | ok residue =>
      dsimp only
      unfold State.fromRights
      cases rightsOf s.keys e with
      | returnRights => exact .inl ⟨_, rfl, rfl⟩
      | returnBlocked => exact .inl ⟨_, rfl, rfl⟩
      | refer => exact .inl ⟨_, rfl, rfl⟩
      | accept set credit row => exact .inr ⟨_, rfl, rfl, rfl, rfl, fun _ h => h⟩

theorem State.resumeEntry_bears (article : Nat) (w : Waiting) (s : State) :
    Bears s (State.resumeEntry article w s) := by
  rcases State.resumeEntry_cases article w s with ⟨r, h, -⟩ | ⟨a, h, -⟩ <;> rw [h]
  · exact (State.returnItem_answers w r s).bears
  · exact State.fromCap_bears a s

theorem State.resumeEntry_answers {article : Nat} {w : Waiting} {x : Session} {s : State}
    (hx : s.session? w.session = some x) :
    Answers w (EntryKind s.articles s.keys article w) s (State.resumeEntry article w s) := by
  rcases State.resumeEntry_cases article w s with ⟨r, h, hkind⟩ | ⟨a, h, hstation, hsession, hreport, hkind⟩
  · rw [h]
    exact (State.returnItem_answers w r s).imp fun _ hk => hk ▸ hkind
  · obtain ⟨v, hgives, hv, hseq, hhold, hright⟩ := State.fromCap_answers (hsession ▸ hx)
    rw [h]
    exact ⟨v, hgives, hstation ▸ hv, hreport ▸ hseq, hhold, hkind _ hright⟩

/-! ## What the end of a list changes -/

/-- `t` differs from `s` at most in what a resumption of held items changes. -/
def ResumeOnly (s t : State) : Prop :=
  t = { s with serial := t.serial, front := t.front, back := t.back, heldCounts := t.heldCounts,
               sessions := t.sessions, lastHandle := t.lastHandle, awaiting := t.awaiting,
               voucherQueue := t.voucherQueue, transfer := t.transfer, tagCounter := t.tagCounter,
               lanes := t.lanes, pipes := t.pipes, strokes := t.strokes, pointer := t.pointer,
               rows := t.rows, totals := t.totals, returned := t.returned }

theorem ResumeOnly.refl (s : State) : ResumeOnly s s := rfl

theorem ResumeOnly.trans {s t u : State} (h : ResumeOnly s t) (k : ResumeOnly t u) :
    ResumeOnly s u := by
  unfold ResumeOnly at *
  rw [k, h]

theorem SessionOnly.resumeOnly {s t : State} (h : SessionOnly s t) : ResumeOnly s t := by
  unfold SessionOnly ResumeOnly at *
  rw [h]

theorem AcceptOnly.resumeOnly {s t : State} (h : AcceptOnly s t) : ResumeOnly s t := by
  unfold AcceptOnly ResumeOnly at *
  rw [h]

theorem State.fromCap_resumeOnly (a : Accept) (s : State) : ResumeOnly s (s.fromCap a) := by
  unfold State.fromCap
  split
  · rfl
  · split
    · rfl
    · split
      · rfl
      · next i _ =>
        exact ((State.reserve_acceptOnly i _ s).trans (State.accept_acceptOnly a _ i _ _)).resumeOnly

theorem State.resumeEntry_resumeOnly (article : Nat) (w : Waiting) (s : State) :
    ResumeOnly s (State.resumeEntry article w s) := by
  rcases State.resumeEntry_cases article w s with ⟨r, h, -⟩ | ⟨a, h, -⟩ <;> rw [h]
  · rfl
  · exact State.fromCap_resumeOnly a s

theorem State.endItems_resumeOnly {verdict : Waiting → State → State}
    (hv : ∀ w t, ResumeOnly t (verdict w t)) (ws : List Waiting) (s : State) :
    ResumeOnly s (s.endItems verdict ws) := by
  induction ws generalizing s with
  | nil => rfl
  | cons w ws ih =>
    have hunheld : ResumeOnly (verdict w s) ((verdict w s).unhold w) := rfl
    exact (((hv w s).trans hunheld).trans (State.settle_sessionOnly w.session _).resumeOnly).trans (ih _)

/-! ## The list -/

/-- While each item gets a right verdict where the links hold, the items of a list get their final verdicts
in the order of the list (R44). -/
theorem State.endItems_final {verdict : Waiting → State → State} {right : Waiting → VerdictKind → Prop}
    (ws : List Waiting) (s : State) (hfinal : Final verdict) (hbears : ∀ w t, Bears t (verdict w t))
    (honly : ∀ w t, ResumeOnly t (verdict w t))
    (hanswers : ∀ w t x, ResumeOnly s t → t.session? w.session = some x →
      Answers w (right w) t (verdict w t)) :
    ∃ fs, s.front.Took fs (s.endItems verdict ws).front ∧
      ∀ H, Linked (ws ++ H) noSession s → FinalVerdicts ws right fs := by
  obtain ⟨fs, hfs⟩ := State.endItems_took (fun w t => (hbears w t).took) ws s
  refine ⟨fs, hfs, fun H h => ?_⟩
  obtain ⟨gs, hgs, hright⟩ := State.endItems_gives
    (inv := fun ws t => Linked (ws ++ H) noSession t ∧ ResumeOnly s t)
    (fun w ws t ⟨hlinked, hsame⟩ => by
      obtain ⟨x, hx, -⟩ := hlinked.seats.owner w List.mem_cons_self
      have hnext := State.endItems_resumeOnly honly [w] t
      exact ⟨hanswers w t x hsame hx, State.releaseItem_linked (hfinal.linked w t _ hlinked),
        hsame.trans hnext⟩)
    (ws := ws) (s := s) ⟨h, .refl s⟩
  rw [hfs.unique hgs]
  exact .of_verdicts hright

end Sys2Proof.Machine
end

section
/-! PROOFS. REFERRAL ANSWER, DECIDE and ENTRY (R54 to R56). -/

namespace Sys2Proof.Machine

-- One theorem after another: many that wait for the kernel at once take threads and memory.
set_option Elab.async false

theorem answerNumber_eq_true {n : Nat} (hpos : 1 ≤ n) (hn : n ≤ 255) : answerNumber n = true := by
  simp [answerNumber, hpos, hn]

/-! ## DECIDE -/

section
variable {tag : Byte} {number verdict cls route : Nat} {s : State}

theorem execReferralAnswerDecide_accept {d : Decided} {rc : RouteClass} {r : Referral}
    (hreset : s.resetAsserted = false) (hpos : 1 ≤ number) (hn : number ≤ 255)
    (hcheck : checkDecision verdict cls route = some (.accept d rc))
    (hr : s.referral? number = some r) (hroute : routeAgrees r.kind rc = true) :
    exec (.referralAnswerDecide tag number verdict cls route) s =
      .next (s.resolve tag r (State.resumeDecided r.kind d rc)) := by
  refine Eq.trans (b := execReferralAnswerDecide tag number verdict cls route s) rfl ?_
  unfold execReferralAnswerDecide
  rw [live_released hreset, answerNumber_eq_true hpos hn, hcheck, hr]
  exact congrArg _ (if_pos hroute)

theorem execReferralAnswerDecide_refuse {r : Referral} (hreset : s.resetAsserted = false)
    (hpos : 1 ≤ number) (hn : number ≤ 255) (hr : s.referral? number = some r) :
    exec (.referralAnswerDecide tag number 2 cls route) s =
      .next (s.resolve tag r (State.returnWaiting .referRefused)) := by
  refine Eq.trans (b := execReferralAnswerDecide tag number 2 cls route s) rfl ?_
  unfold execReferralAnswerDecide
  rw [live_released hreset, answerNumber_eq_true hpos hn, hr]
  rfl

theorem execReferralAnswerDecide_late {d : Decision} (hreset : s.resetAsserted = false)
    (hpos : 1 ≤ number) (hn : number ≤ 255) (hcheck : checkDecision verdict cls route = some d)
    (hr : s.referral? number = none) :
    exec (.referralAnswerDecide tag number verdict cls route) s = .next (s.refuse tag 10 .late) := by
  refine Eq.trans (b := execReferralAnswerDecide tag number verdict cls route s) rfl ?_
  unfold execReferralAnswerDecide
  rw [live_released hreset, answerNumber_eq_true hpos hn, hcheck, hr]

end

/-- A record that has been freed leaves the links of the hall as they stand. -/
theorem Linked.freeReferral {H : List Waiting} {out : Nat → Prop} {s : State} (h : Linked H out s)
    (n : Nat) : Linked H out (s.freeReferral n) := h.of_same rfl rfl rfl rfl rfl rfl

/-- A REPLY changes no records and no counts. -/
theorem State.reply_fall {ws : List Waiting} {s t : State} (h : HeldFall ws s t) (tag : Byte)
    (code : Nat) (r : ReplyCode) (results : List Byte) :
    HeldFall ws s (t.reply tag code r results) := by
  refine h.trans (vs := []) ?_ |> fun k => by simpa using k
  exact (HeldSame.of_same (by simp) (by simp)).fall

/-- Settles O25: each item goes on at step 7 (`State.endItems_final`) or gets its final RETURN
(`State.endItems_return_verdicts`). -/
theorem decideAnswerEndsTheItems : Obligations.DecideAnswerEndsTheItems := by
  unfold Obligations.DecideAnswerEndsTheItems
  refine ⟨?accept, ?item, ?refuse, ?late⟩
  case accept =>
    intro tag number verdict cls route d rc r s hreset hpos hn hcheck hr hroute
    obtain ⟨-, rfl⟩ := State.referral?_spec hr
    have hfinal := State.resumeDecided_final r.kind d rc
    have honly := State.endItems_resumeOnly (fun w t => State.fromCap_resumeOnly _ t) r.waiting
      (verdict := State.resumeDecided r.kind d rc) (s.freeReferral r.number)
    obtain ⟨pre, htook, hverdicts⟩ := State.endItems_final (right := fun _ k => DecidedKind d k)
      r.waiting (s.freeReferral r.number) hfinal (fun _ t => State.fromCap_bears _ t)
      (fun _ t => State.fromCap_resumeOnly _ t) fun w t x _ hx =>
        (State.fromCap_answers (a := decidedAccept t.keys r.kind d rc w) hx).imp fun k hk => by
          cases d <;> exact hk
    have hreply := State.reply_sends tag 10 .ok (be 1 r.waiting.length)
      ((s.freeReferral r.number).endItems (State.resumeDecided r.kind d rc) r.waiting)
    refine ⟨_, pre, execReferralAnswerDecide_accept hreset hpos hn hcheck hr hroute, ?_, ?_,
      htook.trans hreply.front, hreply, ?_, fun hs hl => ?_⟩
    · exact (State.reply_referrals _ _ _ _ _).trans (State.endItems_referrals hfinal r.waiting _)
    · exact (State.reply_articles _ _ _ _ _).trans (by rw [honly]; rfl)
    · exact State.reply_fall (State.endItems_fall (fun w t => (State.fromCap_bears _ t).same)
        r.waiting (s.freeReferral r.number)) _ _ _ _
    · exact hverdicts _ ((Linked.of_record hs hl hr).freeReferral _)
  case item =>
    intro kind d rc w s
    refine ⟨rfl, rfl, rfl, rfl, ?_, ?_, ?_, ?_⟩
    · rintro c rfl; exact ⟨rfl, rfl⟩
    · rintro rfl; rfl
    · rintro e rfl; exact ⟨rfl, rfl, rfl⟩
    · rintro rfl
      refine ⟨?_, rfl⟩
      cases rc <;> simp [decidedAccept, decidedKind]
  case refuse =>
    intro tag number cls route r s hreset hcounters hpos hn hr
    obtain ⟨-, rfl⟩ := State.referral?_spec hr
    obtain ⟨-, -, hcounts⟩ := hcounters
    obtain ⟨pre, htook, hverdicts, hexact⟩ :=
      State.endItems_return_verdicts .referRefused r.waiting (s.freeReferral r.number)
    have hreply := State.reply_sends tag 10 .ok (be 1 r.waiting.length)
      ((s.freeReferral r.number).endItems (State.returnWaiting .referRefused) r.waiting)
    refine ⟨_, pre, execReferralAnswerDecide_refuse hreset hpos hn hr, ?_, ?_, ?_, hverdicts, ?_,
      fun hs hl => ?_, htook.trans hreply.front⟩
    · exact (State.reply_referrals _ _ _ _ _).trans
        (State.endItems_referrals (State.returnWaiting_final _) r.waiting _)
    · exact (State.reply_returned _ _ _ _ _).trans
        (State.endItems_returned .referRefused r.waiting (s := s.freeReferral r.number) (hcounts _))
    · exact (ReturnOnly.trans (t := s.freeReferral r.number) rfl
        (State.endItems_returnOnly .referRefused r.waiting _)).trans
          (SessionOnly.placeAll (replyFrames_front _ _ _ _) _).returnOnly
    · exact State.reply_fall (State.endItems_fall (fun _ _ => .of_same)
        r.waiting (s.freeReferral r.number)) _ _ _ _
    · exact hexact _ ((Linked.of_record hs hl hr).freeReferral _)
  case late =>
    intro tag number verdict cls route d s hreset hpos hn hcheck hr
    exact ⟨_, execReferralAnswerDecide_late hreset hpos hn hcheck hr, State.refuse_sends _ _ _ s⟩

end Sys2Proof.Machine
end

section
/-! PROOFS. REFERRAL ANSWER, ENTRY (R45, R54, R55). -/

namespace Sys2Proof.Machine

-- One theorem after another: many that wait for the kernel at once take threads and memory.
set_option Elab.async false

/-- With room in the table, or its key there, the entry is stored. -/
theorem State.loadEntry_stores {e : Entry} {s : State}
    (h : (findEntry s.articles e.number e.span).isSome = true ∨ s.articles.length < Config.maxEntries) :
    ∃ result, (result = .new ∨ result = .replaced) ∧
      s.loadEntry e = (result, { s with articles := storeEntry e s.articles }) := by
  by_cases hfind : (findEntry s.articles e.number e.span).isSome = true
  · exact ⟨_, .inr rfl, State.loadEntry_replaced hfind⟩
  · exact ⟨_, .inl rfl, State.loadEntry_new (by simpa using hfind) (h.resolve_left hfind)⟩

section
variable {tag : Byte} {number : Nat} {raw : RawEntry} {e : Entry} {r : Referral} {s : State}

theorem execReferralAnswerEntry_miss (hreset : s.resetAsserted = false) (hpos : 1 ≤ number)
    (hn : number ≤ 255) (hcheck : checkEntry raw = some e) (hr : s.referral? number = some r)
    (hkind : r.kind = .miss) :
    exec (.referralAnswerEntry tag number raw) s = .next (s.answerMiss tag r e) := by
  refine Eq.trans (b := execReferralAnswerEntry tag number raw s) rfl ?_
  unfold execReferralAnswerEntry
  rw [live_released hreset, answerNumber_eq_true hpos hn, hcheck, hr]
  dsimp only
  rw [hkind]

theorem execReferralAnswerEntry_decision {d : Entry} (hreset : s.resetAsserted = false)
    (hpos : 1 ≤ number) (hn : number ≤ 255) (hcheck : checkEntry raw = some e)
    (hr : s.referral? number = some r) (hkind : r.kind = .decision d) :
    exec (.referralAnswerEntry tag number raw) s = .next (s.refuse tag 10 .badState) := by
  refine Eq.trans (b := execReferralAnswerEntry tag number raw s) rfl ?_
  unfold execReferralAnswerEntry
  rw [live_released hreset, answerNumber_eq_true hpos hn, hcheck, hr]
  dsimp only
  rw [hkind]

theorem execReferralAnswerEntry_late (hreset : s.resetAsserted = false) (hpos : 1 ≤ number)
    (hn : number ≤ 255) (hcheck : checkEntry raw = some e) (hr : s.referral? number = none) :
    exec (.referralAnswerEntry tag number raw) s = .next (s.lateEntry tag e) := by
  refine Eq.trans (b := execReferralAnswerEntry tag number raw s) rfl ?_
  unfold execReferralAnswerEntry
  rw [live_released hreset, answerNumber_eq_true hpos hn, hcheck, hr]

/-- The entry of an answer to a MISS record is stored, and the items are resumed. -/
theorem State.answerMiss_stores
    (h : (findEntry s.articles e.number e.span).isSome = true ∨ s.articles.length < Config.maxEntries) :
    s.answerMiss tag r e =
      let u := (State.freeReferral r.number { s with articles := storeEntry e s.articles }).endItems
        (State.resumeEntry r.article) r.waiting
      u.reply tag 10 .ok (be 1 r.waiting.length ++ countField u.articles) := by
  obtain ⟨result, hresult, hload⟩ := State.loadEntry_stores h
  unfold State.answerMiss
  rw [hload]
  rcases hresult with rfl | rfl <;> rfl

theorem State.answerMiss_full (hfind : findEntry s.articles e.number e.span = none)
    (hfull : ¬s.articles.length < Config.maxEntries) :
    s.answerMiss tag r e = s.refuse tag 10 .tableFull := by
  unfold State.answerMiss
  rw [State.loadEntry_full hfind hfull]

theorem State.lateEntry_stores
    (h : (findEntry s.articles e.number e.span).isSome = true ∨ s.articles.length < Config.maxEntries) :
    s.lateEntry tag e = State.reply tag 10 .lateLoaded (countField (storeEntry e s.articles))
      { s with articles := storeEntry e s.articles } := by
  obtain ⟨result, hresult, hload⟩ := State.loadEntry_stores h
  unfold State.lateEntry
  rw [hload]
  rcases hresult with rfl | rfl <;> rfl

end

/-- Settles O24: the items are evaluated with the table in which the entry is stored, which stays while they
end (`State.endItems_final`). -/
theorem entryAnswerResumesTheItems : Obligations.EntryAnswerResumesTheItems := by
  unfold Obligations.EntryAnswerResumesTheItems
  refine ⟨?miss, ?full, ?late, ?decision⟩
  case miss =>
    intro tag number raw e r s hreset hpos hn hcheck hr hkind hroom
    obtain ⟨-, rfl⟩ := State.referral?_spec hr
    have hfinal := State.resumeEntry_final r.article
    let u : State := { s with articles := storeEntry e s.articles,
                              referrals := s.referrals.filter (·.number != r.number) }
    have honly := State.endItems_resumeOnly (State.resumeEntry_resumeOnly r.article) r.waiting u
    obtain ⟨pre, htook, hverdicts⟩ := State.endItems_final
      (right := EntryKind (storeEntry e s.articles) s.keys r.article) r.waiting u hfinal
      (State.resumeEntry_bears r.article) (State.resumeEntry_resumeOnly r.article)
      fun w t x ht hx => by
        have hanswers := State.resumeEntry_answers (article := r.article) (w := w) hx
        have htables : t.articles = storeEntry e s.articles ∧ t.keys = s.keys := by
          rw [ht]; exact ⟨rfl, rfl⟩
        rwa [htables.1, htables.2] at hanswers
    have harticles : (u.endItems (State.resumeEntry r.article) r.waiting).articles =
        storeEntry e s.articles := by rw [honly]
    have hreply := State.reply_sends tag 10 .ok
      (be 1 r.waiting.length ++ be 2 (storeEntry e s.articles).length)
      (u.endItems (State.resumeEntry r.article) r.waiting)
    have hexec := execReferralAnswerEntry_miss (tag := tag) hreset hpos hn hcheck hr hkind
    have hstores : s.answerMiss tag r e =
        (u.endItems (State.resumeEntry r.article) r.waiting).reply tag 10 .ok
          (be 1 r.waiting.length ++ be 2 (storeEntry e s.articles).length) := by
      rw [← harticles]
      exact State.answerMiss_stores hroom
    rw [hstores] at hexec
    refine ⟨_, pre, hexec, ?_, ?_, ?_, ?_, ?_, fun hs hl => ?_, ?_⟩
    · exact (State.reply_articles _ _ _ _ _).trans harticles
    · exact (State.reply_referrals _ _ _ _ _).trans (State.endItems_referrals hfinal r.waiting u)
    · rw [State.reply_articles, harticles]
      exact htook.trans hreply.front
    · rw [State.reply_articles, harticles]
      exact hreply
    · exact State.reply_fall (State.endItems_fall
        (fun w t => (State.resumeEntry_bears r.article w t).same) r.waiting u) _ _ _ _
    · exact hverdicts _ ((Linked.of_record hs hl hr).of_same rfl rfl rfl rfl rfl rfl)
    · rw [hreply.rest, honly]
      exact ⟨rfl, rfl, rfl, rfl, rfl, rfl, rfl⟩
  case full =>
    intro tag number raw e r s hreset hpos hn hcheck hr hkind hfind hfull
    refine ⟨_, execReferralAnswerEntry_miss hreset hpos hn hcheck hr hkind, ?_⟩
    rw [State.answerMiss_full hfind (by unfold Config.maxEntries; omega)]
    exact State.refuse_sends _ _ _ s
  case late =>
    intro tag number raw e s hreset hpos hn hcheck hr hroom
    refine ⟨_, execReferralAnswerEntry_late hreset hpos hn hcheck hr, ?_⟩
    rw [State.lateEntry_stores hroom]
    exact State.reply_sends _ _ _ _ _
  case decision =>
    intro tag number raw e d r s hreset hpos hn hcheck hr hkind
    exact ⟨_, execReferralAnswerEntry_decision hreset hpos hn hcheck hr hkind, State.refuse_sends _ _ _ s⟩

end Sys2Proof.Machine
end

section
/-! PROOFS. A report of an unknown article, and one that its rights refer (R31, R35, R44, R50 to R52). -/

namespace Sys2Proof.Machine

-- One theorem after another: many that wait for the kernel at once take threads and memory.
set_option Elab.async false

/-! ## The steps that a report passes -/

section
variable {src n : Nat} {payload : List Byte} {st : Fin 8} {r : Report} {x : Session} {s : State}

/-- A report for the OPEN session of an OPERATING station starts the idle timer and goes on at step 3. -/
theorem exec_itemReport_opened (hreset : s.resetAsserted = false) (hst : stationIx src = some st)
    (hparse : parseReport payload = some r) (hop : (s.stations[st]).state = .operating)
    (hheld : s.isHeld st r.seq = false) (hbusy : s.isBusy st = false) (hx : s.current? st = some x)
    (hopened : x.state = .opened) :
    exec (.itemReport src payload) s = .next ((s.touch x.number).fromCode st x.number r) := by
  simp only [exec, execItemReport]
  rw [live_released hreset]
  simp only [hst, hparse]
  rw [State.evaluate_operating hop hheld hbusy, State.fromSession_opened hx hopened]

/-- The working record of a report for a session (R48). -/
def reported (st : Fin 8) (session : Nat) (r : Report) : Waiting :=
  { station := st, session, report := r, bottle := none, residue := false }

theorem State.fromCode_number {session : Nat} (hn : r.number = some n) :
    s.fromCode st session r = s.fromLookup .report n (reported st session r) := by
  simp only [State.fromCode, hn]
  rfl

theorem State.fromLookup_unknown {w : Waiting} (h : lookup s.articles n = none) :
    s.fromLookup .report n w = s.requestMiss n w := by
  simp only [State.fromLookup, h]

theorem State.fromLookup_passes {q : Asking} {w : Waiting} {e : Entry} {mark : Bool}
    (h : lookup s.articles n = some e) (hpasses : plausibility e w.report = .ok mark) :
    s.fromLookup q n w =
      s.fromRights q n e { w with bottle := bottleLookup s.articles e, residue := mark } := by
  simp only [State.fromLookup, h, hpasses]

end

/-! ## Records of the Referral List -/

theorem State.nextReferral_fresh {s : State} (h : s.referrals.length < Config.maxReferrals) :
    s.nextReferral ∉ s.referrals.map Referral.number := by
  refine freshNumber_not_mem _ _ _ ?_
  rw [List.length_map]
  exact h.trans (by decide)

theorem find?_insertReferral {r : Referral} {rs : List Referral} (hr : r.number ∉ rs.map Referral.number)
    (m : Nat) : (insertReferral r rs).find? (·.number == m) =
      if m = r.number then some r else rs.find? (·.number == m) := by
  have hcons (x : Referral) (xs : List Referral) : (x :: xs).find? (·.number == m) =
      if m = x.number then some x else xs.find? (·.number == m) := by
    rw [List.find?_cons]
    by_cases h : x.number = m
    · simp [h]
    · rw [beq_eq_false_iff_ne.2 h, if_neg (Ne.symm h)]
  induction rs with
  | nil => exact hcons r []
  | cons y ys ih =>
    simp only [List.map_cons, List.mem_cons, not_or] at hr
    obtain ⟨hy, hys⟩ := hr
    unfold insertReferral
    split
    · exact hcons r (y :: ys)
    · rw [hcons, hcons, ih hys]
      by_cases hm : m = r.number
      · rw [if_pos hm, if_pos hm, if_neg (hm ▸ hy)]
      · rw [if_neg hm, if_neg hm]

theorem Referral.join_number (n : Nat) (w : Waiting) (f : Referral) :
    (Referral.join n w f).number = f.number := by
  unfold Referral.join
  split <;> rfl

theorem find?_join (n : Nat) (w : Waiting) (rs : List Referral) (m : Nat) :
    (rs.map (Referral.join n w)).find? (·.number == m) =
      (rs.find? (·.number == m)).map (Referral.join n w) := by
  rw [List.find?_map]
  congr 2
  funext f
  exact congrArg (· == m) (Referral.join_number n w f)

/-- The MISS record of an article is found by its number, and an item that joins it changes no other
record. -/
theorem RecordsOk.join_find? {n : Nat} {f : Referral} {rs : List Referral} (h : RecordsOk rs)
    (hf : f ∈ rs) (hmiss : IsMissOf n f) (w : Waiting) :
    (rs.map (Referral.join n w)).find? (·.number == f.number) =
      some { f with waiting := f.waiting ++ [w] } ∧
    ∀ m, m ≠ f.number → (rs.map (Referral.join n w)).find? (·.number == m) =
      rs.find? (·.number == m) := by
  have hfound : rs.find? (·.number == f.number) = some f := by
    have hsome : (rs.find? (·.number == f.number)).isSome := List.find?_isSome.2 ⟨f, hf, by simp⟩
    obtain ⟨g, hg⟩ := Option.isSome_iff_exists.1 hsome
    rw [hg, List.inj_on_of_nodup_map (h.numbers.imp Nat.ne_of_lt) (List.mem_of_find?_eq_some hg) hf
      (by simpa using List.find?_some hg)]
  refine ⟨?_, fun m hm => ?_⟩
  · rw [find?_join, hfound]
    exact congrArg some (if_pos ((f.isMiss_iff n).2 hmiss))
  · rw [find?_join]
    cases hg : rs.find? (·.number == m) with
    | none => rfl
    | some g =>
      refine congrArg some (if_neg fun hgmiss => hm ?_)
      obtain ⟨hgkind, hgarticle⟩ := (g.isMiss_iff n).1 hgmiss
      have hsame : g = f := List.inj_on_of_nodup_map h.articles
        (List.mem_filter.2 ⟨List.mem_of_find?_eq_some hg, by simp [hgkind]⟩)
        (List.mem_filter.2 ⟨hf, by simp [hmiss.1]⟩) (hgarticle.trans hmiss.2.symm)
      rw [← hsame]
      have hgm : g.number = m := by simpa using List.find?_some hg
      exact hgm.symm

/-! ## The HOLD -/

/-- The VERDICT HOLD of an item, with the running credit of its session (R24). -/
def holdVerdict (w : Waiting) (credit : Nat) : Frame :=
  .verdict (stationNo w.station)
    { seq := w.report.seq, kind := .hold, credit := none, credited := none, session := some w.session,
      running := some credit, residue := none, foreign := none }

theorem State.hold_sends {s : State} {w : Waiting} {x : Session} (hx : s.session? w.session = some x) :
    Sends [holdVerdict w x.credit] [] (s.recount w (· + 1)) (s.hold w) := by
  unfold State.hold
  rw [hx]
  exact State.place_sends_front rfl _

/-- The REFERRAL notice goes ahead of the HOLD (R52). -/
theorem State.makeReferral_sends {s : State} {w : Waiting} {x : Session} (kind : ReferralKind)
    (article : Nat) (hx : s.session? w.session = some x) :
    Sends [.notice (.referral s.nextReferral kind article w s.params.referralTimeout),
        holdVerdict w x.credit] []
      { s.recount w (· + 1) with
        referrals := insertReferral
          { number := s.nextReferral, kind, article, expiry := s.now + s.params.referralTimeout,
            waiting := [w] } s.referrals,
        lastReferral := s.nextReferral } (s.makeReferral kind article w) := by
  let u : State := { s with
    referrals := insertReferral
      { number := s.nextReferral, kind, article, expiry := s.now + s.params.referralTimeout,
        waiting := [w] } s.referrals
    lastReferral := s.nextReferral }
  have hnotice := State.notify_sends
    (.referral s.nextReferral kind article w s.params.referralTimeout) u
  have hheld : Sends [.notice (.referral s.nextReferral kind article w s.params.referralTimeout)] []
      (u.recount w (· + 1)) ((u.notify (.referral s.nextReferral kind article w
        s.params.referralTimeout)).recount w (· + 1)) :=
    ⟨hnotice.front, hnotice.back, rfl⟩
  exact hheld.trans (State.hold_sends hx)

theorem State.joinMiss_sends {s : State} {w : Waiting} {x : Session} (article : Nat)
    (hx : s.session? w.session = some x) :
    Sends [holdVerdict w x.credit] []
      { s.recount w (· + 1) with referrals := s.referrals.map (Referral.join article w) }
      (s.joinMiss article w) :=
  State.hold_sends (s := { s with referrals := s.referrals.map (Referral.join article w) }) hx

/-! ## The session and the counts of the item -/

/-- A change of the one record that a number names is told by what it makes of that record. -/
theorem State.onSession_congr {s : State} {x : Session} {f g : Session → Session} (hs : SessionsOk s)
    (hx : s.session? x.number = some x) (h : f x = g x) :
    s.onSession x.number f = s.onSession x.number g := by
  unfold State.onSession
  congr 1
  refine List.map_congr_left fun y hy => ?_
  split
  · next hn => rw [session_unique hs.2.1 hy (State.mem_of_session? hx) hn, h]
  · rfl

/-- An item of the session `x` is held, whose idle timer has been started again (R25, R29). -/
def State.holding (s : State) (w : Waiting) (x : Session) : State :=
  { s.onSession x.number (fun y => { y with
      held := x.held + 1, lastItem := s.now,
      idleExpiry := idleExpiryAt s.now s.params.idleTime }) with
    heldCounts := s.heldCounts.set w.station.val (s.heldCounts[w.station] + 1) w.station.isLt }

theorem State.touch_recount {s : State} {w : Waiting} {x : Session} (hs : SessionsOk s)
    (hx : s.session? x.number = some x) (hw : w.session = x.number) :
    (s.touch x.number).recount w (· + 1) = s.holding w x := by
  have hboth : ((s.touch x.number).recount w (· + 1)).sessions =
      (s.onSession x.number fun y => { y with
        held := y.held + 1, lastItem := s.now,
        idleExpiry := idleExpiryAt s.now s.params.idleTime }).sessions := by
    unfold State.recount State.touch
    rw [State.onSession_sessions, State.setHeld_sessions, State.onSession_sessions, State.onSession_sessions,
      List.map_map]
    refine List.map_congr_left fun y _ => ?_
    by_cases hy : y.number = x.number <;> simp [hy, hw]
  rw [State.onSession_congr hs hx (g := fun y => { y with
    held := x.held + 1, lastItem := s.now, idleExpiry := idleExpiryAt s.now s.params.idleTime }) rfl]
    at hboth
  calc (s.touch x.number).recount w (· + 1)
      = { s.holding w x with sessions := ((s.touch x.number).recount w (· + 1)).sessions } := rfl
    _ = s.holding w x := by rw [hboth]; rfl

theorem State.holding_session? {s : State} {w : Waiting} {x : Session}
    (hx : s.session? x.number = some x) : (s.holding w x).session? x.number = some { x with
      held := x.held + 1, lastItem := s.now, idleExpiry := idleExpiryAt s.now s.params.idleTime } :=
  State.onSession_found (s := s) (f := fun y => { y with
    held := x.held + 1, lastItem := s.now, idleExpiry := idleExpiryAt s.now s.params.idleTime })
    (fun _ => rfl) hx

/-! ## The statement -/

section
variable {n : Nat} {w : Waiting} {s : State}

theorem State.requestMiss_makes (hnone : s.referrals.any (Referral.isMiss n) = false)
    (hroom : s.referralRoom = true) : s.requestMiss n w = s.makeReferral .miss n w := by
  simp only [State.requestMiss, hnone, hroom, Bool.false_eq_true, if_false, if_true]

theorem State.requestMiss_joins {f : Referral} (hf : f ∈ s.referrals) (hmiss : IsMissOf n f)
    (hroom : s.waitingItems.length < 8) : s.requestMiss n w = s.joinMiss n w := by
  have hany : s.referrals.any (Referral.isMiss n) = true :=
    List.any_eq_true.2 ⟨f, hf, (f.isMiss_iff n).2 hmiss⟩
  unfold State.requestMiss
  rw [if_pos hany, if_pos hroom]

theorem State.requestDecision_makes {e : Entry} (hroom : s.referralRoom = true) :
    s.requestDecision n e w = s.makeReferral (.decision e) n w := by
  simp only [State.requestDecision, hroom, if_true]

/-- With room in the list the number of a new record is in range and new (R49). -/
theorem State.nextReferral_spec (h : s.referralRoom = true) :
    (1 ≤ s.nextReferral ∧ s.nextReferral ≤ 255) ∧ s.nextReferral ∉ s.referrals.map Referral.number := by
  simp only [State.referralRoom, Bool.and_eq_true, decide_eq_true_eq] at h
  exact ⟨freshNumber_range _ _ _ (by decide), State.nextReferral_fresh h.1⟩

end

/-- A record made for a touched session: its number, its place in the list, and what has been sent. -/
theorem State.makeReferral_spec {n : Nat} {w : Waiting} {x : Session} {s : State} (kind : ReferralKind)
    (hs : SessionsOk s) (hx : s.session? x.number = some x) (hw : w.session = x.number)
    (hroom : s.referralRoom = true) :
    let r : Referral := { number := s.nextReferral, kind, article := n,
                          expiry := s.now + s.params.referralTimeout, waiting := [w] }
    let t := (s.touch x.number).makeReferral kind n w
    (1 ≤ s.nextReferral ∧ s.nextReferral ≤ 255 ∧ ∀ f ∈ s.referrals, f.number ≠ s.nextReferral) ∧
    t.referral? s.nextReferral = some r ∧
    (∀ m, m ≠ s.nextReferral → t.referral? m = s.referral? m) ∧
    t.referrals = insertReferral r s.referrals ∧
    Sends [.notice (.referral s.nextReferral kind n w s.params.referralTimeout),
        holdVerdict w x.credit] []
      { s.holding w x with referrals := t.referrals, lastReferral := s.nextReferral } t := by
  obtain ⟨⟨hpos, hle⟩, hfresh⟩ := State.nextReferral_spec hroom
  have hfind := find?_insertReferral (rs := s.referrals)
    (r := { number := s.nextReferral, kind, article := n, expiry := s.now + s.params.referralTimeout,
            waiting := [w] }) hfresh
  have htouched : (s.touch x.number).session? w.session = some (x.touched s) := by
    rw [hw, State.touch_session?, hx]
    rfl
  have hsends := State.makeReferral_sends kind n htouched
  rw [State.touch_recount hs hx hw] at hsends
  refine ⟨⟨hpos, hle, fun f hf hn => hfresh (hn ▸ List.mem_map_of_mem hf)⟩, ?_, fun m hm => ?_, rfl,
    hsends⟩
  · exact (hfind _).trans (if_pos rfl)
  · exact (hfind m).trans (if_neg hm)

/-- Settles O21: what the Referral List and the HOLD do with the working record of a report, whose session
has been touched. -/
theorem unknownArticleIsHeld : Obligations.UnknownArticleIsHeld := by
  unfold Obligations.UnknownArticleIsHeld
  refine ⟨?made, ?joined, ?referred⟩
  case made =>
    intro src n payload st r x s hreset hs hrefs hst hparse hop hheld hbusy hcurrent hopened hn hlookup
      hnone hroom w
    have hx := State.session?_of_current? hs hcurrent
    have hexec := exec_itemReport_opened hreset hst hparse hop hheld hbusy hcurrent hopened
    rw [State.fromCode_number hn, State.fromLookup_unknown (s := s.touch x.number) hlookup,
      State.requestMiss_makes (s := s.touch x.number) hnone hroom] at hexec
    obtain ⟨hrange, hfound, hothers, -, hsends⟩ :=
      State.makeReferral_spec (n := n) (w := reported st x.number r) .miss hs hx rfl hroom
    refine ⟨_, s.nextReferral, hexec, hrange, rfl, hfound, hothers, rfl, ?_, hsends.front, rfl⟩
    rw [hsends.rest]
    exact State.holding_session? (w := reported st x.number r) hx
  case joined =>
    intro src n payload st r x f s hreset hs hrefs hst hparse hop hheld hbusy hcurrent hopened hn hlookup
      hf hmiss hroom w
    have hx := State.session?_of_current? hs hcurrent
    have htouched : (s.touch x.number).session? x.number = some (x.touched s) := by
      rw [State.touch_session?, hx]
      rfl
    have hexec := exec_itemReport_opened hreset hst hparse hop hheld hbusy hcurrent hopened
    rw [State.fromCode_number hn, State.fromLookup_unknown (s := s.touch x.number) hlookup,
      State.requestMiss_joins (s := s.touch x.number) hf hmiss hroom] at hexec
    have hsends := State.joinMiss_sends (w := reported st x.number r) n htouched
    rw [State.touch_recount hs hx rfl] at hsends
    obtain ⟨hfound, hothers⟩ :=
      ((referralsOk_iff s).1 hrefs).join_find? hf hmiss (reported st x.number r)
    refine ⟨_, hexec, hfound, hothers, ?_, hsends⟩
    refine (List.map_map ..).trans (List.map_congr_left fun g _ => ?_)
    exact Referral.join_number n _ g
  case referred =>
    intro src n payload st r x e mark s hreset hs hrefs hst hparse hop hheld hbusy hcurrent hopened hn
      hlookup hpasses hrights hnone w
    have hroom : s.referralRoom = true := by
      rw [← Bool.not_eq_false, State.referralRoom_eq_false_iff]
      exact hnone
    have hx := State.session?_of_current? hs hcurrent
    have hexec := exec_itemReport_opened hreset hst hparse hop hheld hbusy hcurrent hopened
    rw [State.fromCode_number hn, State.fromLookup_passes (s := s.touch x.number) hlookup hpasses] at hexec
    have hrefer : (s.touch x.number).fromRights .report n e w =
        (s.touch x.number).makeReferral (.decision e) n w := by
      unfold State.fromRights
      rw [show rightsOf (s.touch x.number).keys e = .refer from hrights]
      exact State.requestDecision_makes (s := s.touch x.number) hroom
    obtain ⟨hrange, hfound, hothers, hinserted, hsends⟩ :=
      State.makeReferral_spec (n := n) (w := w) (.decision e) hs hx rfl hroom
    refine ⟨_, s.nextReferral, hexec.trans (congrArg _ hrefer), hrange, hfound, hothers, ?_, hsends⟩
    rw [hinserted, (insertReferral_perm _ _).length_eq, List.length_cons]

end Sys2Proof.Machine
end

section
/-! SUPPORT. The acceptance of an item for a session whose idle timer has been started again (R37, R40 to R43,
R99, R121, R150, R152). -/

namespace Sys2Proof.Machine

-- One theorem after another: many that wait for the kernel at once take threads and memory.
set_option Elab.async false

/-! ## Credits -/

theorem State.ownPortion_of_same {s t : State} (h : t.classValues = s.classValues) (a : Accept) :
    t.ownPortion a = s.ownPortion a := by unfold State.ownPortion; rw [h]

theorem State.itemCredit_of_same {s t : State} (h : t.classValues = s.classValues) (a : Accept) :
    t.itemCredit a = s.itemCredit a := by
  unfold State.itemCredit State.bottlePortion
  rw [State.ownPortion_of_same h, h]

/-- The part of the item credit for which the cap leaves room (R42). -/
def State.gain (s : State) (a : Accept) (x : Session) : Nat := min (s.itemCredit a) (x.cap - x.credit)

/-- The share of the item itself in the credited amount (R42, R43). -/
def State.ownShare (s : State) (a : Accept) (x : Session) : Nat := min (s.gain a x) (s.ownPortion a)

theorem State.credited_eq {x : Session} (s : State) (a : Accept) (h : x.credit ≤ x.cap) :
    s.credited a x = s.gain a x := by
  unfold State.credited State.gain
  omega

/-- The record of a session that gains an amount by an item of the credit `c` (R42, R43). -/
def Session.gains (a : Accept) (c amount own : Nat) (x : Session) : Session :=
  { x with credit := x.credit + amount, accepted := x.accepted + 1,
           lines := allocate a own (amount - own) (decide (0 < c)) x.lines }

/-- The session add of a session within its cap. -/
theorem State.sessionAdd_session? {x : Session} {s : State} (a : Accept)
    (hx : s.session? x.number = some x) (h : x.credit ≤ x.cap) (m : Nat) :
    (s.sessionAdd a x).session? m =
      if m = x.number then some (x.gains a (s.itemCredit a) (s.gain a x) (s.ownShare a x))
      else s.session? m := by
  have hcredit : min (x.credit + s.itemCredit a) x.cap = x.credit + s.gain a x := by
    unfold State.gain; omega
  have hamount : s.itemCredit a - (x.credit + s.itemCredit a - (x.credit + s.gain a x)) =
      s.gain a x := by unfold State.gain; omega
  unfold State.sessionAdd
  dsimp only
  rw [hcredit, hamount]
  refine (State.onSession_lookup s x.number
    (f := fun y => { y.gains a (s.itemCredit a) (s.gain a x) (s.ownShare a x) with
      credit := x.credit + s.gain a x }) (fun _ => rfl) m).trans ?_
  rw [hx]
  rfl

theorem State.sessionAdd_totals {x : Session} (s : State) (a : Accept) (h : x.credit ≤ x.cap) :
    (s.sessionAdd a x).totals = s.totals.excess (s.itemCredit a - s.gain a x) := by
  have hexcess : x.credit + s.itemCredit a - min (x.credit + s.itemCredit a) x.cap =
      s.itemCredit a - s.gain a x := by unfold State.gain; omega
  unfold State.sessionAdd
  dsimp only
  rw [hexcess]
  rfl

theorem State.countCells_of_same {s t : State} (h : t.rows = s.rows) (a : Accept) (own bottle : Nat) :
    (t.countCells a own bottle).rows = (s.countCells a own bottle).rows := by
  have hcell {s t : State} (h : t.rows = s.rows) (row : Fin 5) (col : Column) (f : Cell → Cell) :
      (t.onCell row col f).rows = (s.onCell row col f).rows := by unfold State.onCell; rw [h]
  unfold State.countCells
  dsimp only
  cases a.bottles with
  | none => exact hcell h _ _ _
  | some b =>
    dsimp only
    cases b.entry with
    | none => exact hcell h _ _ _
    | some e =>
      dsimp only
      split <;> exact hcell (hcell h _ _ _) _ _ _

/-! ## An accepted item -/

/-- What the acceptance of an item leaves, for a session whose record was `x` when the report arrived. -/
structure Accepted (a : Accept) (x : Session) (i : Fin 12) (s t : State) : Prop where
  record : t.session? x.number =
    some ((x.touched s).gains a (s.itemCredit a) (s.gain a x) (s.ownShare a x))
  sessions : ∀ m, m ≠ x.number → t.session? m = s.session? m
  reserved : (t.lanes[i]).reserved = (s.lanes[i]).reserved + itemFill a.kind a.volume s.lanes[i]
  committed : (t.lanes[i]).committed = (s.lanes[i]).committed
  lanes : ∀ j, j ≠ i → t.lanes[j] = s.lanes[j]
  only : AcceptOnly s t
  handle : t.lastHandle = s.nextHandle
  rows : t.rows = (s.countCells a (s.ownShare a x) (s.gain a x - s.ownShare a x)).rows
  totals : t.totals = ((s.totals.excess (s.itemCredit a - s.gain a x)).residue
    (cond a.item.residue 1 0)).foreign a.foreign
  orders : LanesOk s → (t.pipes[i]).orders = (s.pipes[i]).orders ++
    [{ handle := t.lastHandle, fill := itemFill a.kind a.volume s.lanes[i], kind := a.kind,
       station := a.item.station }] ∧ ∀ j : Fin 12, j ≠ i → (t.pipes[j]).orders = (s.pipes[j]).orders
  front : ∃ pre, (pre = [] ∨ ∃ k, pre = [.notice k]) ∧
    s.front.Took (pre ++ [.verdict (stationNo a.item.station) (acceptVerdict a x (s.itemCredit a)
      (s.gain a x))]) t.front

theorem State.reserve_only (i : Fin 12) (f : Nat) (s : State) : s.reserve i f =
    { s with serial := (s.reserve i f).serial, front := (s.reserve i f).front,
             lanes := (s.reserve i f).lanes } := by
  unfold State.reserve
  rcases State.testNearlyFull_eq i
    (s.setLane i { s.lanes[i] with reserved := (s.lanes[i]).reserved + f }) with h | ⟨k, h⟩
  all_goals rw [h]; rfl

/-- The books of an acceptance are those of the session add, with the counts of the item. -/
theorem State.accepted_books (a : Accept) (x : Session) (i : Fin 12) (fill : Nat) (s : State) :
    (s.accepted a x i fill).lastHandle = s.nextHandle ∧
    (s.accepted a x i fill).rows = (s.countCells a (min (s.credited a x) (s.ownPortion a))
      (s.credited a x - min (s.credited a x) (s.ownPortion a))).rows ∧
    (s.accepted a x i fill).totals =
      ((s.sessionAdd a x).totals.residue (cond a.item.residue 1 0)).foreign a.foreign := by
  have hpipe := State.appendOrder_pipeOnly i
    { handle := s.nextHandle, fill, kind := a.kind, station := a.item.station }
    { s.sessionAdd a x with lastHandle := s.nextHandle }
  unfold State.accepted
  rw [State.countAccepted_eq]
  refine ⟨?_, State.countCells_of_same ?_ _ _ _, ?_⟩
  · rw [hpipe]
  · rw [hpipe]; rfl
  · rw [hpipe]

theorem State.accept_spec {a : Accept} {x : Session} {i : Fin 12} {s : State}
    (hx : s.session? x.number = some x) (hcap : x.credit ≤ x.cap) :
    Accepted a x i s (((s.touch x.number).reserve i (itemFill a.kind a.volume s.lanes[i])).accept a
      (x.touched s) i (itemFill a.kind a.volume s.lanes[i])) := by
  set fill := itemFill a.kind a.volume s.lanes[i] with hfill
  set v := (s.touch x.number).reserve i fill with hv
  have hreserve : v = { s.touch x.number with serial := v.serial, front := v.front, lanes := v.lanes } :=
    State.reserve_only i fill _
  have hvalues : v.classValues = s.classValues := by rw [hreserve]; rfl
  have hitem := State.itemCredit_of_same hvalues a
  have hgain : v.gain a (x.touched s) = s.gain a x := by unfold State.gain; rw [hitem]; rfl
  have hshare : v.ownShare a (x.touched s) = s.ownShare a x := by
    unfold State.ownShare; rw [hgain, State.ownPortion_of_same hvalues]
  have hcredited := (State.credited_eq v a (x := x.touched s) hcap).trans hgain
  obtain ⟨hhandle, hrows, htotals⟩ := State.accepted_books a (x.touched s) i fill v
  have hnext : v.nextHandle = s.nextHandle := by rw [hreserve]; rfl
  have hlast : (v.accept a (x.touched s) i fill).lastHandle = s.nextHandle := hhandle.trans hnext
  have hvsession (m : Nat) : v.session? m = (s.touch x.number).session? m :=
    State.session?_of_same (by rw [hreserve]) m
  have htouched : (s.touch x.number).session? x.number = some (x.touched s) := by
    rw [State.touch_session?, hx]
    rfl
  have hlookup (m : Nat) := (State.session?_of_same (State.accept_sessions a (x.touched s) i fill v) m).trans
    (State.sessionAdd_session? (x := x.touched s) a ((hvsession _).trans htouched) hcap m)
  rw [hitem, hgain, hshare] at hlookup
  have hlanes : (v.accept a (x.touched s) i fill).lanes = v.lanes := State.accept_lanes a _ i _ _
  have hvlanes := State.reserve_lanes i fill (s.touch x.number)
  rw [← hv] at hvlanes
  have hget := get_of_set (hlanes.trans hvlanes)
  constructor
  case record => exact (hlookup _).trans (if_pos rfl)
  case sessions =>
    intro m hm
    refine ((hlookup m).trans (if_neg hm)).trans ((hvsession m).trans ?_)
    exact State.onSession_session?_of_ne s _ (fun _ => rfl) hm
  case reserved => rw [hget, if_pos rfl]; rfl
  case committed => rw [hget, if_pos rfl]; rfl
  case lanes => intro j hj; rw [hget, if_neg (Ne.symm hj)]; rfl
  case only =>
    exact AcceptOnly.trans (t := s.touch x.number) rfl
      ((State.reserve_acceptOnly i fill _).trans (State.accept_acceptOnly a (x.touched s) i fill v))
  case handle => exact hlast
  case rows =>
    refine hrows.trans ?_
    rw [hcredited, State.ownPortion_of_same hvalues]
    exact State.countCells_of_same (by rw [hreserve]; rfl) _ _ _
  case totals =>
    refine htotals.trans ?_
    rw [State.sessionAdd_totals v a (x := x.touched s) hcap, hitem, hgain]
    exact congrArg (fun t : Totals => ((t.excess _).residue _).foreign _) (by rw [hreserve]; rfl)
  case orders =>
    intro hl
    have hjoined := State.accept_joined (a := a) (x := x.touched s) (i := i) (fill := fill)
      (s := s.touch x.number) hl.requestsOk
    refine ⟨hjoined.orders.trans ?_, fun j hj => (hjoined.others j hj).orders⟩
    rw [hlast]
    rfl
  case front =>
    obtain ⟨pre, hpre, htook⟩ := State.reserve_front i fill (s.touch x.number)
    have hverdict : acceptVerdict a (x.touched s) (v.itemCredit a) (v.credited a (x.touched s)) =
        acceptVerdict a x (s.itemCredit a) (s.gain a x) := by rw [hitem, hcredited]; rfl
    rw [State.accept_eq, hverdict]
    have hplaced := (State.place_sends_front (f := .verdict (stationNo a.item.station)
      (acceptVerdict a x (s.itemCredit a) (s.gain a x))) rfl (v.accepted a (x.touched s) i fill)).front
    rw [State.accepted_front] at hplaced
    exact ⟨pre, hpre, htook.trans hplaced⟩

end Sys2Proof.Machine
end

section
/-! PROOFS. The acceptance of a known container or crate, the voucher lines, and the opening of a session (R29,
R36, R37, R40 to R43, R62 to R64). -/

namespace Sys2Proof.Machine

-- One theorem after another: many that wait for the kernel at once take threads and memory.
set_option Elab.async false

/-! ## The item of a known article -/

section
variable {src n : Nat} {payload : List Byte} {st : Fin 8} {r : Report} {x : Session} {e : Entry}
  {set : Rights} {credit mark : Bool} {row : Fin 5} {i : Fin 12} {s : State}

/-- An item that passes step 7 and finds a lane is accepted. -/
theorem State.fromCap_accepts {a : Accept} {y : Session} (hx : s.session? a.item.session = some y)
    (hroom : sessionFull y (s.itemCredit a) = false)
    (hlane : s.chooseLane a.route (itemFill a.kind a.volume) none = some i) :
    s.fromCap a = (s.reserve i (itemFill a.kind a.volume s.lanes[i])).accept a y i
      (itemFill a.kind a.volume s.lanes[i]) := by
  unfold State.fromCap
  rw [hx]
  dsimp only
  rw [hroom, hlane]
  rfl

/-- The item of a report on a known article (R23, R35 to R37). -/
def reportedAccept (s : State) (st : Fin 8) (session : Nat) (r : Report) (e : Entry) (set : Rights)
    (credit mark : Bool) (row : Fin 5) : Accept :=
  acceptOf s.keys { reported st session r with bottle := bottleLookup s.articles e, residue := mark } e
    set credit row

/-- A report of a known article that passes steps 5 to 7 and finds a lane. -/
theorem exec_itemReport_accepts (hreset : s.resetAsserted = false) (hs : SessionsOk s)
    (hst : stationIx src = some st) (hparse : parseReport payload = some r)
    (hop : (s.stations[st]).state = .operating) (hheld : s.isHeld st r.seq = false)
    (hbusy : s.isBusy st = false) (hcurrent : s.current? st = some x) (hopened : x.state = .opened)
    (hn : r.number = some n) (hlookup : lookup s.articles n = some e)
    (hpasses : plausibility e r = .ok mark) (hrights : rightsOf s.keys e = .accept set credit row)
    (hroom : sessionFull x (s.itemCredit (reportedAccept s st x.number r e set credit mark row)) = false)
    (hlane : s.chooseLane (routeOf e set) (itemFill e.kind e.volume) none = some i) :
    ∃ t, exec (.itemReport src payload) s = .next t ∧
      Accepted (reportedAccept s st x.number r e set credit mark row) x i s t := by
  set a := reportedAccept s st x.number r e set credit mark row with ha
  have hx := State.session?_of_current? hs hcurrent
  have htouched : (s.touch x.number).session? a.item.session = some (x.touched s) := by
    refine (State.touch_session? s x.number).trans ?_
    rw [hx]
    rfl
  have hfrom : (s.touch x.number).fromCode st x.number r = (s.touch x.number).fromCap a := by
    rw [State.fromCode_number hn, State.fromLookup_passes (s := s.touch x.number) hlookup hpasses]
    unfold State.fromRights
    rw [show rightsOf (s.touch x.number).keys e = .accept set credit row from hrights]
    rfl
  have haccepts := State.fromCap_accepts (s := s.touch x.number) (a := a) htouched hroom
    ((State.touch_chooseLane s _ _ _ _).trans hlane)
  refine ⟨_, (exec_itemReport_opened hreset hst hparse hop hheld hbusy hcurrent hopened).trans
    (congrArg _ (hfrom.trans haccepts)), ?_⟩
  obtain ⟨-, -, hok⟩ := hs
  exact State.accept_spec hx (hok x (State.mem_of_session? hx)).1

end

theorem riseCount_zero {c : Nat} (h : c ≤ Config.maxCount) : riseCount c 0 = c := by
  unfold riseCount; omega

/-- The counts of residue and of foreign bottles of an item (R152). -/
theorem Totals.Ok.counts {t : Totals} (h : t.Ok) (mark : Bool) (excess foreign : Nat) :
    ((t.excess excess).residue (cond mark 1 0)).foreign foreign = { t with
      capExcess := riseValue t.capExcess excess
      residueMarked := if mark then riseCount t.residueMarked 1 else t.residueMarked
      foreignBottles := riseCount t.foreignBottles foreign } := by
  obtain ⟨-, -, -, -, -, -, -, -, hresidue, -⟩ := h
  cases mark with
  | true => rfl
  | false =>
    unfold Totals.foreign Totals.residue Totals.excess
    simp [riseCount_zero hresidue]

theorem Totals.Ok.foreign {t : Totals} (h : t.Ok) : t.foreignBottles ≤ Config.maxCount := by
  obtain ⟨-, -, -, -, -, -, -, -, -, hforeign, -⟩ := h
  exact hforeign

theorem Entry.crate_of_kind {e : Entry} (h : e.kind = .crate) :
    ∃ slots bottle, e.body = .crate slots bottle := by
  unfold Entry.kind at h
  split at h
  · cases h
  · next slots bottle hbody => exact ⟨slots, bottle, hbody⟩

/-- A crate has no residue mark (R33, R34). -/
theorem plausibility_crate_mark {e : Entry} {r : Report} {mark : Bool} (hkind : e.kind = .crate)
    (h : plausibility e r = .ok mark) : mark = false := by
  obtain ⟨slots, bottle, hbody⟩ := Entry.crate_of_kind hkind
  rw [plausibility_crate r hbody] at h
  split at h <;> cases h
  rfl

theorem routeOf_crate {e : Entry} (hkind : e.kind = .crate) (set : Rights) : routeOf e set = .crate := by
  obtain ⟨slots, bottle, hbody⟩ := Entry.crate_of_kind hkind
  simp only [routeOf, hbody]

theorem Entry.column_crate {e : Entry} (hkind : e.kind = .crate) : e.column = .crate := by
  obtain ⟨slots, bottle, hbody⟩ := Entry.crate_of_kind hkind
  simp only [Entry.column, hbody]

end Sys2Proof.Machine
end

section
/-! PROOFS. What an acceptance makes of a container, and of a crate with its bottles (R36, R37, R42, R43, R150 to
R152). -/

namespace Sys2Proof.Machine

-- One theorem after another: many that wait for the kernel at once take threads and memory.
set_option Elab.async false

/-! ## Items without bottles -/

section
variable {a : Accept} {s : State} (h : a.bottles = none)
include h

theorem State.itemCredit_noBottles : s.itemCredit a = s.ownPortion a := by
  unfold State.itemCredit State.bottlePortion
  rw [h]
  rfl

theorem State.ownShare_noBottles (x : Session) : s.ownShare a x = s.gain a x := by
  unfold State.ownShare State.gain
  rw [State.itemCredit_noBottles h]
  exact Nat.min_eq_left (Nat.min_le_left _ _)

theorem allocate_noBottles (own bottle : Nat) (earned : Bool) (ls : List VoucherLine) :
    allocate a own bottle earned ls = if a.credit then addLine a.cls 1 own ls else ls := by
  unfold allocate
  rw [h]

theorem State.countCells_noBottles (own bottle : Nat) : s.countCells a own bottle =
    s.onCell a.row a.column (if a.credit then Cell.credit 1 own else Cell.take 1) := by
  unfold State.countCells
  rw [h]

theorem Accept.foreign_noBottles : a.foreign = 0 := by
  unfold Accept.foreign
  rw [h]
  rfl

end

/-! ## Crates -/

/-- The bottles of a reported crate (R36). -/
def crateBottles (s : State) (e : Entry) (r : Report) : Bottles :=
  settleBottles s.keys r.bottles (bottleLookup s.articles e)

section
variable {a : Accept} {s : State} {e : Entry} {r : Report} (h : a.bottles = some (crateBottles s e r))
include h

theorem Accept.foreign_crate : a.foreign = foreignBottles r := by
  unfold Accept.foreign
  rw [h]
  rfl

/-- A crate that earns nothing touches no line; else its share and that of its bottles go to the lines of
their classes (R43, log entry 18). -/
theorem allocate_crate (own bottle c : Nat) (ls : List VoucherLine) :
    allocate a own bottle (decide (0 < c)) ls =
      if c = 0 then ls
      else
        let ms := if a.credit then addLine a.cls 1 own ls else ls
        match earningBottle s e with
        | some b => addLine b.depositClass (ownBottles r) bottle ms
        | none => ms := by
  unfold allocate earningBottle
  rw [h]
  unfold crateBottles settleBottles
  dsimp only
  by_cases hc : c = 0
  · simp [hc]
  · have hpos : decide (0 < c) = true := decide_eq_true (Nat.pos_of_ne_zero hc)
    rw [if_neg hc, hpos, if_pos rfl]
    cases bottleLookup s.articles e with
    | none => rfl
    | some b =>
      dsimp only [Option.map_some]
      cases hearns : (bottleRights s.keys b).1
      · simp [Option.filter, hearns]
      · simp [Option.filter, hearns]
        rfl

theorem State.countCells_crate (own bottle : Nat) :
    (s.countCells a own bottle).rows =
      (match bottleLookup s.articles e with
      | none => s.onCell a.row a.column (if a.credit then Cell.credit 1 own else Cell.take 1)
      | some b =>
        if (bottleRights s.keys b).1 then
          (s.onCell a.row a.column (if a.credit then Cell.credit 1 own else Cell.take 1)).onCell
            (bottleRights s.keys b).2 b.column (Cell.credit (ownBottles r) bottle)
        else
          (s.onCell a.row a.column (if a.credit then Cell.credit 1 own else Cell.take 1)).onCell 0
            b.column (Cell.take (ownBottles r))).rows := by
  unfold State.countCells
  rw [h]
  unfold crateBottles settleBottles
  cases bottleLookup s.articles e with
  | none => rfl
  | some b => rfl

end

end Sys2Proof.Machine
end

section
/-! PROOFS. Voucher lines, and the session that a report opens (R29, R43, R62 to R64). -/

namespace Sys2Proof.Machine

-- One theorem after another: many that wait for the kernel at once take threads and memory.
set_option Elab.async false

/-! ## Voucher lines (R43) -/

/-- A class below the classes of all lines has no line. -/
theorem find?_cls_eq_none {cls : Fin 16} {ls : List VoucherLine} (h : ∀ l ∈ ls, cls < l.cls) :
    ls.find? (fun l => l.cls == cls) = none := by
  rw [List.find?_eq_none]
  intro l hl
  simpa using (h l hl).ne'

/-- A share and a count go to the line of their class, and the lines of other classes stay. -/
theorem addLine_find? (cls k : Fin 16) (count share : Nat) (ls : List VoucherLine)
    (hsorted : (ls.map fun l => l.cls.val).Pairwise (· < ·)) :
    (addLine cls count share ls).find? (fun l => l.cls == k) =
      if k ≠ cls then ls.find? fun l => l.cls == k
      else match ls.find? fun l => l.cls == cls with
        | some l => some { l with count := l.count + count, value := l.value + share }
        | none => if share = 0 then none else some ⟨cls, count, share⟩ := by
  have hcons (m : VoucherLine) (ms : List VoucherLine) : (m :: ms).find? (fun l => l.cls == k) =
      if k = m.cls then some m else ms.find? fun l => l.cls == k := by
    rw [List.find?_cons]
    by_cases h : m.cls = k
    · simp [h]
    · rw [beq_eq_false_iff_ne.2 h, if_neg (Ne.symm h)]
  have hnew (ms : List VoucherLine) (hms : ∀ l ∈ ms, cls < l.cls) :
      (if share = 0 then ms else ⟨cls, count, share⟩ :: ms).find? (fun l => l.cls == k) =
        if k ≠ cls then ms.find? fun l => l.cls == k
        else if share = 0 then none else some ⟨cls, count, share⟩ := by
    by_cases hk : k = cls
    · subst hk
      split
      · rw [find?_cls_eq_none hms]; simp
      · rw [hcons]; simp
    · rw [if_pos hk]
      split
      · rfl
      · rw [hcons, if_neg hk]
  induction ls with
  | nil => exact hnew [] (by simp)
  | cons l ls ih =>
    simp only [List.map_cons, List.pairwise_cons, List.forall_mem_map] at hsorted
    obtain ⟨hfirst, hrest⟩ := hsorted
    unfold addLine
    split
    · next hlt =>
      have hbelow : ∀ m ∈ l :: ls, cls < m.cls := by
        simp only [List.mem_cons, forall_eq_or_imp]
        exact ⟨hlt, fun m hm => hlt.trans (hfirst m hm)⟩
      rw [find?_cls_eq_none hbelow]
      exact hnew (l :: ls) hbelow
    · split
      · next hnot heq =>
        subst heq
        by_cases hk : k = l.cls
        · subst hk; simp
        · rw [hcons, hcons]
          simp [hk]
      · next hnot hne =>
        rw [hcons, ih hrest]
        by_cases hk : k = cls
        · subst hk
          simp [hne, Ne.symm hne]
        · rw [if_pos hk, if_pos hk, hcons]

/-! ## A session opens (R29, R62, R63) -/

/-- A number in turn that is free is the one given (R26, R49, R62). -/
theorem freshNumber_eq_next {top : Nat} {used : List Nat} {last : Nat}
    (h : nextNumber top last ∉ used) : freshNumber top used last = nextNumber top last := by
  unfold freshNumber
  cases used.length with
  | zero => rfl
  | succ n =>
    unfold firstFree
    simp [h]

theorem find?_insertSession_of_none {p : Session → Bool} {x : Session} {xs : List Session}
    (hx : p x = true) (hnone : xs.find? p = none) : (insertSession x xs).find? p = some x := by
  induction xs with
  | nil => simp [insertSession, hx]
  | cons y ys ih =>
    rw [List.find?_cons] at hnone
    split at hnone
    · cases hnone
    · next hy =>
      unfold insertSession
      split
      · simp [hx]
      · rw [List.find?_cons, hy]
        exact ih hnone

theorem State.touch_touch (s : State) (n : Nat) : (s.touch n).touch n = s.touch n := by
  have hsessions : ((s.touch n).touch n).sessions = (s.touch n).sessions := by
    refine (List.map_map ..).trans (List.map_congr_left fun x _ => ?_)
    have hnow : (s.touch n).now = s.now := rfl
    have hparams : (s.touch n).params = s.params := rfl
    by_cases h : x.number = n <;> simp [h, hnow, hparams]
  calc (s.touch n).touch n = { s.touch n with sessions := ((s.touch n).touch n).sessions } := rfl
    _ = s.touch n := by rw [hsessions]

/-- A report for an OPERATING station without a current session opens one and goes on at step 3. -/
theorem exec_itemReport_opens {src : Nat} {payload : List Byte} {st : Fin 8} {r : Report} {s : State}
    (hreset : s.resetAsserted = false) (hst : stationIx src = some st)
    (hparse : parseReport payload = some r) (hop : (s.stations[st]).state = .operating)
    (hheld : s.isHeld st r.seq = false) (hbusy : s.isBusy st = false) (hnone : s.current? st = none)
    (hroom : s.sessions.length < 16) : exec (.itemReport src payload) s =
      .next (((s.openSession st).touch s.nextSession).fromCode st s.nextSession r) := by
  simp only [exec, execItemReport]
  rw [live_released hreset]
  simp only [hst, hparse]
  rw [State.evaluate_operating hop hheld hbusy]
  unfold State.fromSession
  rw [hnone]
  exact congrArg _ (if_pos hroom)

theorem State.requestMiss_lastSession (n : Nat) (w : Waiting) (s : State) :
    (s.requestMiss n w).lastSession = s.lastSession := by
  unfold State.requestMiss
  split
  · split <;> rfl
  · split <;> rfl

theorem State.requestDecision_lastSession (n : Nat) (e : Entry) (w : Waiting) (s : State) :
    (s.requestDecision n e w).lastSession = s.lastSession := by
  unfold State.requestDecision
  split <;> rfl

/-- From step 3 on no session opens. -/
theorem State.fromCode_lastSession (st : Fin 8) (n : Nat) (r : Report) (s : State) :
    (s.fromCode st n r).lastSession = s.lastSession := by
  unfold State.fromCode
  split
  · rfl
  · unfold State.fromLookup
    split
    · exact State.requestMiss_lastSession _ _ s
    · split
      · rfl
      · unfold State.fromRights
        split
        · rfl
        · rfl
        · exact State.requestDecision_lastSession _ _ _ s
        · rw [State.fromCap_resumeOnly _ s]

/-- The record of the session that a report opens, with its idle timer started (R63, R64). -/
def openedSession (s : State) (st : Fin 8) : Session :=
  (newSession s.nextSession st s.params.sessionCap s.now).touched s

/-- The session that a report opens (R29, R63). -/
theorem State.opened_spec {st : Fin 8} {s : State} (hnone : s.current? st = none)
    (hroom : s.sessions.length < Config.maxSessions) :
    let u := (s.openSession st).touch s.nextSession
    u.session? s.nextSession = some (openedSession s st) ∧
    (∀ m, m ≠ s.nextSession → u.session? m = s.session? m) ∧
    u.current? st = some (openedSession s st) ∧ u.sessions.length = s.sessions.length + 1 := by
  have hfind := State.openSession_session? (st := st) (State.nextSession_fresh hroom)
  refine ⟨?_, fun m hm => ?_, ?_, ?_⟩
  · rw [State.touch_session?, hfind, if_pos rfl]
    rfl
  · refine (State.onSession_session?_of_ne (s.openSession st) (Session.touched s) (fun _ => rfl) hm).trans ?_
    rw [hfind, if_neg hm]
  · have hcurrent : (s.openSession st).current? st =
        some (newSession s.nextSession st s.params.sessionCap s.now) :=
      find?_insertSession_of_none (by simp [newSession, Session.isCurrent]) hnone
    exact State.touch_current? hcurrent
  · refine List.length_map .. |>.trans ?_
    exact insertSession_length _ _

end Sys2Proof.Machine
end

section
/-! PROOFS. A report of a known container or crate, and the report that opens a session (R29, R36, R37, R40 to
R43, R62 to R64). -/

namespace Sys2Proof.Machine

-- One theorem after another: many that wait for the kernel at once take threads and memory.
set_option Elab.async false

/-- The share of the item itself in what a report earns (R37). -/
theorem State.ownPortion_reported (s : State) (st : Fin 8) (session : Nat) (r : Report) (e : Entry)
    (set : Rights) (credit mark : Bool) (row : Fin 5) :
    s.ownPortion (reportedAccept s st session r e set credit mark row) = ownCredit s e credit := rfl

/-- Settles O20: what `Accepted` says of the item that step 6 made of the report; `addLine_find?`; and the
report evaluated again in the state in which its session is open. -/
theorem knownContainerIsAccepted : Obligations.KnownContainerIsAccepted := by
  unfold Obligations.KnownContainerIsAccepted
  refine ⟨?container, ?crate, addLine_find?, ?opens⟩
  case container =>
    intro src n payload st r x e set credit mark row i s hreset hs hq hst hparse hop hheld hbusy hcurrent
      hopened hn hlookup hkind hpasses hrights c a fill hroom hlane
    have hbottles : (reportedAccept s st x.number r e set credit mark row).bottles = none := by
      unfold reportedAccept acceptOf
      rw [hkind]
      rfl
    have hcredit : s.itemCredit (reportedAccept s st x.number r e set credit mark row) = c :=
      State.itemCredit_noBottles hbottles
    have hgain : s.gain (reportedAccept s st x.number r e set credit mark row) x = a := by
      unfold State.gain
      rw [hcredit]
    have hshare := (State.ownShare_noBottles (s := s) hbottles x).trans hgain
    obtain ⟨t, hexec, h⟩ := exec_itemReport_accepts hreset hs hst hparse hop hheld hbusy hcurrent hopened
      hn hlookup hpasses hrights (by rw [hcredit]; exact hroom) (by rw [hkind]; exact hlane)
    obtain ⟨pre, hpre, htook⟩ := h.front
    have hrecord := h.record
    have hreserved := h.reserved
    have hrows := h.rows
    have htotals := h.totals
    have horders := h.orders
    rw [hcredit, hgain] at htook
    rw [hcredit, hgain, hshare] at hrecord
    rw [hgain, hshare, State.countCells_noBottles hbottles] at hrows
    rw [hcredit, hgain, Accept.foreign_noBottles hbottles] at htotals
    have hfill : itemFill (reportedAccept s st x.number r e set credit mark row).kind
        (reportedAccept s st x.number r e set credit mark row).volume s.lanes[i] = fill :=
      congrArg (fun k => itemFill k e.volume s.lanes[i]) hkind
    rw [hfill] at hreserved horders
    refine ⟨t, pre, hexec, hrecord.trans ?_, hreserved, h.committed, h.lanes, h.sessions, h.only, ?_,
      hrows, ?_, fun hcounters => ?_, fun hl => ?_, hpre, ?_⟩
    · unfold Session.gains
      rw [allocate_noBottles hbottles]
      rfl
    · rw [h.handle]
      exact State.nextHandle_fresh hq
    · rw [htotals]
      rfl
    · obtain ⟨-, hok, -⟩ := hcounters
      rw [htotals, hok.counts, riseCount_zero hok.foreign]
      rfl
    · rw [(horders hl).1]
      exact ⟨by rw [show (reportedAccept s st x.number r e set credit mark row).kind = .container from
        hkind]; rfl, (horders hl).2⟩
    · unfold acceptVerdict at htook
      rw [hbottles] at htook
      exact htook
  case crate =>
    intro src n payload st r x e set credit mark row i s hreset hs hq hst hparse hop hheld hbusy hcurrent
      hopened hn hlookup hkind hpasses hrights c₀ c a a₀ hroom hlane
    obtain rfl := plausibility_crate_mark hkind hpasses
    have hacc : (reportedAccept s st x.number r e set credit false row).kind = .crate := hkind
    have hbottles : (reportedAccept s st x.number r e set credit false row).bottles =
        some (crateBottles s e r) := by
      unfold reportedAccept acceptOf
      rw [hkind]
      rfl
    have hcredit : s.itemCredit (reportedAccept s st x.number r e set credit false row) = c :=
      State.itemCredit_acceptOf s _ e set credit row rfl
    have hgain : s.gain (reportedAccept s st x.number r e set credit false row) x = a := by
      unfold State.gain
      rw [hcredit]
    have hshare : s.ownShare (reportedAccept s st x.number r e set credit false row) x = a₀ := by
      unfold State.ownShare
      rw [hgain, State.ownPortion_reported]
    obtain ⟨t, hexec, h⟩ := exec_itemReport_accepts hreset hs hst hparse hop hheld hbusy hcurrent hopened
      hn hlookup hpasses hrights (by rw [hcredit]; exact hroom) (by rw [hkind, routeOf_crate hkind]; exact hlane)
    obtain ⟨pre, hpre, htook⟩ := h.front
    have hrecord := h.record
    have hreserved := h.reserved
    have hrows := h.rows
    have htotals := h.totals
    have horders := h.orders
    rw [hcredit, hgain] at htook
    rw [hcredit, hgain, hshare] at hrecord
    rw [hgain, hshare, State.countCells_crate hbottles] at hrows
    rw [hcredit, hgain, Accept.foreign_crate hbottles] at htotals
    rw [hacc] at hreserved horders
    refine ⟨t, pre, hexec, hrecord.trans ?_, hreserved, h.committed, h.lanes, h.sessions, h.only, ?_,
      hrows.trans ?_, fun hcounters => ?_, horders, hpre, ?_⟩
    · unfold Session.gains
      rw [allocate_crate hbottles]
      rfl
    · rw [h.handle]
      exact State.nextHandle_fresh hq
    · rw [show (reportedAccept s st x.number r e set credit false row).column = .crate from
        Entry.column_crate hkind]
      rfl
    · obtain ⟨-, hok, -⟩ := hcounters
      rw [htotals]
      exact hok.counts false _ _
    · unfold acceptVerdict at htook
      rw [hbottles] at htook
      exact htook
  case opens =>
    intro src payload st r s hreset hs hst hparse hop hheld hbusy hnone hroom next
    obtain ⟨hfound, hothers, hcurrent, hlength⟩ := State.opened_spec hnone hroom
    have hfresh := State.nextSession_fresh hroom
    obtain ⟨hpos, hle⟩ := freshNumber_range 65535 (s.sessions.map Session.number) s.lastSession
      (by decide)
    have hexec := exec_itemReport_opens hreset hst hparse hop hheld hbusy hnone hroom
    refine ⟨(s.openSession st).touch s.nextSession, s.nextSession,
      ⟨hpos, hle, fun x hx hn => hfresh (hn ▸ List.mem_map_of_mem hx)⟩, fun hnext => ?_, rfl, ?_, hlength,
      hfound, hothers, hcurrent.trans hfound.symm, hexec.trans ?_, _, hexec, ?_⟩
    · refine freshNumber_eq_next fun hmem => ?_
      obtain ⟨x, hx, hn⟩ := List.mem_map.1 hmem
      exact hnext x hx hn
    · exact ((Evolves.opened s st hroom).trans (State.touch_evolves _ _)).sessionsOk hs
    · have hopened := exec_itemReport_opened (src := src) (payload := payload)
        (s := (s.openSession st).touch s.nextSession) hreset hst hparse hop hheld hbusy hcurrent rfl
      rw [hopened]
      exact congrArg (fun u : State => Host.Outcome.next (u.fromCode st s.nextSession r))
        (State.touch_touch (s.openSession st) s.nextSession).symm
    · exact State.fromCode_lastSession st s.nextSession r _

end Sys2Proof.Machine
end

section
/-! SUPPORT. CORNER RESET at the ports and in the Referral List: frames that are placed before others are given
up, and the RETURN RESET of every waiting item (R47, R60, R95, R173). -/

namespace Sys2Proof.Machine

-- One theorem after another: many that wait for the kernel at once take threads and memory.
set_option Elab.async false

/-! ## Frames held for room -/

/-- `q` is `p` with the frames `fs` behind its own; none has gone past a frame that is held for room
(R173). -/
def Port.Grew (fs : List Frame) (p q : Port) : Prop :=
  ∃ queued held : List Queued, (queued ++ held).map Queued.frame = fs ∧ (queued = [] ∨ p.held = []) ∧
    q = { p with queue := p.queue ++ queued, held := p.held ++ held }

theorem Port.Grew.refl (p : Port) : p.Grew [] p := ⟨[], [], rfl, .inl rfl, by simp⟩

theorem Port.Grew.trans {fs gs : List Frame} {p q r : Port} (h : p.Grew fs q) (k : q.Grew gs r) :
    p.Grew (fs ++ gs) r := by
  obtain ⟨as, bs, rfl, hroom, rfl⟩ := h
  obtain ⟨cs, ds, rfl, kroom, rfl⟩ := k
  refine ⟨as ++ cs, bs ++ ds, ?_, ?_, by simp [List.append_assoc]⟩
  · rcases kroom with rfl | hheld
    · simp
    · simp [(List.append_eq_nil_iff.1 hheld).2]
  · rcases kroom with rfl | hheld
    · simpa using hroom
    · exact .inr (List.append_eq_nil_iff.1 hheld).1

theorem Port.produce_grew (cap : Nat) (x : Queued) (p : Port) : p.Grew [x.frame] (p.produce cap x) := by
  unfold Port.produce
  split
  · next h => exact ⟨[x], [], rfl, .inr h.1, by simp⟩
  · exact ⟨[], [x], rfl, .inl rfl, by simp⟩

/-- Frames of another sort stay where frames are given up, and stand behind those that stay. -/
theorem Port.Grew.giveUp {fs : List Frame} {p q : Port} (h : p.Grew fs q) {sort : Frame → Bool}
    (hfs : ∀ f ∈ fs, sort f = false) :
    (q.giveUp sort).all.map Queued.frame =
      (p.queue ++ p.held.filter fun x => !sort x.frame).map Queued.frame ++ fs ∧
    q.giveUp sort = { p with queue := (q.giveUp sort).queue, held := (q.giveUp sort).held } := by
  obtain ⟨as, bs, rfl, hroom, rfl⟩ := h
  have hbs : bs.filter (fun x => !sort x.frame) = bs := List.filter_eq_self.2 fun x hx => by
    simpa using hfs x.frame (List.mem_map_of_mem (List.mem_append_right as hx))
  refine ⟨?_, rfl⟩
  unfold Port.giveUp Port.all
  dsimp only
  rw [List.filter_append, hbs]
  rcases hroom with rfl | hheld
  · simp
  · simp [hheld]

/-! ## RETURN RESET (R47, R60) -/

/-- The final RETURNs of items whose sessions stand: a verdict and a count each. -/
theorem State.foldl_returnWaiting (r : ReturnReason) (ws : List Waiting) (s : State) :
    let t := ws.foldl (fun t w => t.returnWaiting r w) s
    t = { s with serial := t.serial, front := t.front, returned := t.returned } ∧
    s.front.Grew (ws.map fun w => returnVerdict s w.station w.report.seq r) t.front ∧
    (s.returned[r.index] ≤ Config.maxCount → t.returned = s.returned.set r.index.val
      (min (s.returned[r.index] + ws.length) Config.maxCount) r.index.isLt) := by
  induction ws generalizing s with
  | nil =>
    refine ⟨rfl, .refl _, fun h => ?_⟩
    rw [List.length_nil, Nat.add_zero, Nat.min_eq_left h]
    exact set_same rfl r.index
  | cons w ws ih =>
    obtain ⟨hrest, hfront, hreturned⟩ := ih (State.returnWaiting r w s)
    have hfirst : (State.returnWaiting r w s).returned = s.returned.set r.index.val
        (riseCount s.returned[r.index] 1) r.index.isLt := rfl
    refine ⟨by rw [List.foldl_cons, hrest]; rfl, ?_, fun h => ?_⟩
    · exact (Port.produce_grew _ _ _).trans hfront
    · have hget := get_of_set hfirst r.index
      rw [if_pos rfl] at hget
      rw [List.foldl_cons, hreturned (hget.trans_le (Nat.min_le_right _ _)), hget, hfirst, Vector.set_set,
        List.length_cons]
      congr 1
      unfold riseCount
      omega

/-! ## The credit that is discarded (R77) -/

theorem State.discarded_eq (s : State) : s.discarded =
    (s.sessions.map fun x => if x.state = .awaitPrint then 0 else x.credit).sum := by
  unfold State.discarded
  induction s.sessions with
  | nil => rfl
  | cons x xs ih =>
    rw [List.filter_cons, List.map_cons, List.sum_cons, ← ih]
    by_cases h : x.state = .awaitPrint <;> simp [h]

end Sys2Proof.Machine
end

section
/-! SUPPORT. The lane passes of CORNER RESET at the ports and in the counters (R100, R113, R114, R118, R136,
R152). -/

namespace Sys2Proof.Machine

-- One theorem after another: many that wait for the kernel at once take threads and memory.
set_option Elab.async false

/-! ## Notices of fills -/

/-- The overflow high mark is not cleared by what goes to overflow. -/
theorem Overflow.after_high {gone : List Order} {capacity : Nat} {o : Overflow} (h : o.high = true) :
    (o.after gone capacity).high = true := by
  unfold Overflow.after
  split
  · exact h
  · simp [h]

theorem FillNotices.trans {o p q : Overflow} {fs gs : List Frame} (h : FillNotices o p fs)
    (k : FillNotices p q gs) (hop : o.high = true → p.high = true) (hpq : p.high = true → q.high = true) :
    FillNotices o q (fs ++ gs) := by
  obtain ⟨hsort, hcount⟩ := h
  obtain ⟨ksort, kcount⟩ := k
  refine ⟨fun f hf => (List.mem_append.1 hf).elim (hsort f) (ksort f), ?_⟩
  rw [List.countP_append, hcount, kcount]
  cases ho : o.high <;> cases hp : p.high <;> cases hq : q.high <;> simp_all

theorem FillNotices.nearlyFull (o : Overflow) (lane committed reserved capacity : Nat) :
    FillNotices o o [.notice (.nearlyFull lane committed reserved capacity)] :=
  ⟨by simp [Frame.isNearlyFull], by cases o.high <;> rfl⟩

theorem FillNotices.raised {o p : Overflow} (ho : o.high = false) (hp : p.high = true)
    (fill items capacity : Nat) : FillNotices o p [.notice (.overflowHigh fill items capacity)] :=
  ⟨by simp [Frame.isOverflowHigh], by rw [ho, hp]; rfl⟩

/-! ## What a pass does -/

/-- The orders `gone` have gone to overflow, with the notices that this and the fills of the lanes call for,
and the frames `bs` have been placed on the back link. -/
structure Emptying (gone : List Order) (bs : List Frame) (s t : State) : Prop where
  only : t = { s with serial := t.serial, front := t.front, back := t.back, lanes := t.lanes,
                      overflow := t.overflow, pipes := t.pipes, totals := t.totals }
  overflow : t.overflow = s.overflow.after gone s.params.overflowCapacity
  totals : t.totals = s.totals.overflowed gone
  front : ∃ ns, s.front.Took ns t.front ∧ FillNotices s.overflow t.overflow ns
  back : s.back.Took bs t.back

theorem Emptying.params {gone : List Order} {bs : List Frame} {s t : State} (h : Emptying gone bs s t) :
    t.params = s.params := by rw [h.only]

theorem Emptying.trans {gone lost : List Order} {bs cs : List Frame} {s t u : State}
    (h : Emptying gone bs s t) (k : Emptying lost cs t u) : Emptying (gone ++ lost) (bs ++ cs) s u := by
  obtain ⟨ns, hns, hnotices⟩ := h.front
  obtain ⟨ms, hms, knotices⟩ := k.front
  refine ⟨?_, ?_, ?_, ⟨ns ++ ms, hns.trans hms, hnotices.trans knotices ?_ ?_⟩, h.back.trans k.back⟩
  · rw [k.only, h.only]
  · rw [k.overflow, h.params, h.overflow, Overflow.after_append]
  · rw [k.totals, h.totals, Totals.overflowed_append]
  · rw [h.overflow]; exact Overflow.after_high
  · rw [k.overflow]; exact Overflow.after_high

/-- Lanes and pipelines alone are written. -/
theorem Emptying.of_same {s t : State} (h : t = { s with lanes := t.lanes, pipes := t.pipes }) :
    Emptying [] [] s t := by
  rw [h]
  exact ⟨rfl, rfl, rfl, ⟨[], .refl _, .refl _⟩, .refl _⟩

theorem Emptying.refl (s : State) : Emptying [] [] s s := .of_same rfl

theorem State.testNearlyFull_emptying (i : Fin 12) (s : State) :
    Emptying [] [] s (s.testNearlyFull i) := by
  unfold State.testNearlyFull
  dsimp only
  split
  · exact ⟨rfl, rfl, rfl, ⟨_, (State.notify_sends _ _).front, .nearlyFull _ _ _ _ _⟩, .refl _⟩
  · exact .of_same rfl

theorem State.release_emptying (i : Fin 12) (f : Nat) (s : State) : Emptying [] [] s (s.release i f) :=
  (Emptying.of_same (t := s.setLane i { s.lanes[i] with reserved := (s.lanes[i]).reserved - f })
    rfl).trans (State.testNearlyFull_emptying i _)

theorem State.overflowOrder_emptying (o : Order) (s : State) : Emptying [o] [] s (s.overflowOrder o) := by
  have hoverflow := State.overflowOrder_overflow o s
  have htotals := State.overflowOrder_totals o s
  refine ⟨?_, hoverflow, htotals, ?_, ?_⟩
  all_goals unfold State.overflowOrder State.testOverflowHigh
  · split <;> rfl
  · split
    · next h => exact ⟨_, (State.notify_sends _ _).front, .raised h.2 rfl _ _ _⟩
    · refine ⟨[], .refl _, ?_⟩
      exact .refl s.overflow
  · split <;> exact .refl _

theorem State.foldl_toOverflow_emptying (i : Fin 12) (os : List Order) (s : State) :
    Emptying os [] s (os.foldl (fun t o => t.toOverflow i o) s) := by
  induction os generalizing s with
  | nil => exact .refl s
  | cons o os ih =>
    exact ((State.release_emptying i o.fill s).trans (State.overflowOrder_emptying o _)).trans (ih _)

theorem State.emptyPipe_emptying (i : Fin 12) (s : State) :
    Emptying (s.pipes[i]).orders [] s (s.emptyPipe i) :=
  (Emptying.of_same (t := s.setPipe i Pipeline.reset) rfl).trans (State.foldl_toOverflow_emptying i _ _)

/-- The LANE MODE of a lane that was not closed (R118). -/
def closing (i : Fin 12) (l : Lane) : List Frame :=
  if l.state = .closed then [] else [.laneMode (laneNo i) .closed]

theorem State.closeLane_emptying (i : Fin 12) (s : State) :
    Emptying [] (closing i s.lanes[i]) s (s.closeLane i) := by
  unfold State.closeLane closing
  split
  · exact .refl s
  · have hstate : ((s.storeLaneState i .closed).lanes[i]).state = .closed := by
      rw [get_of_set (State.storeLaneState_lanes i .closed s) i, if_pos rfl]
    have hplaced := (State.place_sends_back (f := .laneMode (laneNo i) .closed) rfl
      (s.storeLaneState i .closed)).back
    unfold State.placeLaneMode
    rw [hstate]
    exact ⟨rfl, rfl, rfl, ⟨[], .refl _, .refl _⟩, hplaced⟩

/-! ## The passes -/

/-- A pass over the lanes, whose work on a lane is told by what stands there before the pass. -/
theorem foldl_emptying {f : State → Fin 12 → State} {gone : Lane × Pipeline → List Order}
    {frames : Fin 12 → Lane × Pipeline → List Frame}
    (hf : ∀ t i, Emptying (gone (t.bay i)) (frames i (t.bay i)) t (f t i))
    (hothers : ∀ t i j, i ≠ j → (f t i).bay j = t.bay j) {is : List (Fin 12)} (his : is.Nodup) (s : State) :
    Emptying (is.flatMap fun i => gone (s.bay i)) (is.flatMap fun i => frames i (s.bay i)) s
      (is.foldl f s) := by
  induction is generalizing s with
  | nil => exact .refl s
  | cons i is ih =>
    obtain ⟨hnew, htail⟩ := List.nodup_cons.1 his
    have hsame : ∀ j ∈ is, (f s i).bay j = s.bay j := fun j hj =>
      hothers s i j fun hij => hnew (hij ▸ hj)
    have hrest := ih htail (f s i)
    rw [List.flatMap_congr fun j hj => congrArg gone (hsame j hj),
      List.flatMap_congr fun j hj => congrArg (frames j) (hsame j hj)] at hrest
    exact (hf s i).trans hrest

theorem Lane.released_state (l : Lane) (os : List Order) : (l.released os).state = l.state := by
  injection Lane.released_marked l os

theorem State.resetLanes_emptying (s : State) :
    Emptying (allLanes.flatMap fun i => (s.pipes[i]).orders)
      (allLanes.flatMap fun i => closing i s.lanes[i])
      { s with back := s.back.giveUp Frame.ofPipeline } s.resetLanes := by
  have hemptied := foldl_emptying (f := fun t i => t.emptyPipe i) (gone := fun b => b.2.orders)
    (frames := fun _ _ => []) (fun t i => State.emptyPipe_emptying i t)
    (fun t i j hij => by rw [State.emptyPipe_bay, if_neg hij]) allLanes_nodup
    { s with back := s.back.giveUp Frame.ofPipeline }
  have hbays := foldl_bays (g := fun b => (b.1.released b.2.orders, Pipeline.reset))
    State.emptyPipe_bay { s with back := s.back.giveUp Frame.ofPipeline }
  have hclosed := foldl_emptying (f := fun t i => t.closeLane i) (gone := fun _ => [])
    (frames := fun i b => closing i b.1) (fun t i => State.closeLane_emptying i t)
    (fun t i j hij => by rw [State.closeLane_bay, if_neg hij]) allLanes_nodup
    (allLanes.foldl (fun t i => t.emptyPipe i) { s with back := s.back.giveUp Frame.ofPipeline })
  have htested := foldl_emptying (f := fun t i => t.testNearlyFull i) (gone := fun _ => [])
    (frames := fun _ _ => []) (fun t i => State.testNearlyFull_emptying i t)
    (fun t i j hij => by rw [State.testNearlyFull_bay, if_neg hij]) allLanes_nodup
    (allLanes.foldl (fun t i => t.closeLane i)
      (allLanes.foldl (fun t i => t.emptyPipe i) { s with back := s.back.giveUp Frame.ofPipeline }))
  have hmodes : (allLanes.flatMap fun i => closing i ((allLanes.foldl (fun (t : State) i => t.emptyPipe i)
      { s with back := s.back.giveUp Frame.ofPipeline }).bay i).1) =
      allLanes.flatMap fun i => closing i s.lanes[i] := by
    refine List.flatMap_congr fun i _ => ?_
    rw [hbays]
    unfold closing
    rw [Lane.released_state]
    rfl
  rw [hmodes] at hclosed
  have hnone {α : Type} : (allLanes.flatMap fun _ => ([] : List α)) = [] :=
    List.flatMap_eq_nil_iff.2 fun _ _ => rfl
  have hall := (hemptied.trans hclosed).trans htested
  rw [hnone, hnone, List.append_nil, List.append_nil, List.append_nil, List.nil_append] at hall
  exact hall

end Sys2Proof.Machine
end

section
/-! PROOFS. CORNER RESET (R47, R60, R77, R95, R118, R136, R148, R169, R173, R179). -/

namespace Sys2Proof.Machine

-- One theorem after another: many that wait for the kernel at once take threads and memory.
set_option Elab.async false

/-- The Referral List, the Session Table and the Voucher Unit have been emptied (R47, R60, R77, R95). -/
def State.resetHall (s : State) : State := s.resetReferrals.resetSessions.resetVoucher

/-- What the emptied blocks leave: the counters, and the front link with the RETURN RESET of each waiting item
behind the frames that stay. -/
theorem State.resetHall_spec (s : State) :
    s.resetHall = { s with
      serial := s.resetHall.serial, front := s.resetHall.front, referrals := [],
      heldCounts := Vector.replicate 8 0, sessions := [], awaiting := [], voucherQueue := [],
      transfer := .idle, totals := s.totals.discard s.discarded, returned := s.resetHall.returned } ∧
    s.resetHall.front.all.map Queued.frame =
      (s.front.queue ++ s.front.held.filter fun q => !q.frame.ofVoucherUnit).map Queued.frame ++
        s.waitingItems.map (fun w => returnVerdict s w.station w.report.seq .reset) ∧
    s.resetHall.front = { s.front with
      queue := s.resetHall.front.queue, held := s.resetHall.front.held } ∧
    (CountersOk s → s.resetHall.returned = s.returned.set 18
      (min (s.returned[18] + s.waitingItems.length) 99999999)) := by
  obtain ⟨hrest, hfront, hreturned⟩ := State.foldl_returnWaiting .reset s.waitingItems s
  have hsort : ∀ f ∈ s.waitingItems.map (fun w => returnVerdict s w.station w.report.seq .reset),
      f.ofVoucherUnit = false := by
    intro f hf
    obtain ⟨w, -, rfl⟩ := List.mem_map.1 hf
    rfl
  obtain ⟨hall, hport⟩ := hfront.giveUp hsort
  refine ⟨?_, hall, hport, fun h => ?_⟩
  · unfold State.resetHall State.resetReferrals
    rw [hrest]
    rfl
  · obtain ⟨-, -, hcounts⟩ := h
    have hkept (t : State) : (State.resetVoucher (State.resetSessions { t with
        referrals := [], heldCounts := Vector.replicate 8 0 })).returned = t.returned := rfl
    unfold State.resetHall State.resetReferrals
    rw [hkept]
    exact hreturned (hcounts ReturnReason.reset.index)

/-- A lane as CORNER RESET leaves it, where the law of fills held. -/
theorem laneOk.emptied_eq {l : Lane} {p : Pipeline} (h : laneOk l p) : l.emptied p.orders = { l with
    state := .closed, reserved := 0, nearlyFull := decide (l.capacity * l.warn ≤ l.committed * 100),
    changed := l.changed || decide (l.state ≠ .closed) } := by
  obtain ⟨⟨-, hsum⟩, -⟩ := (laneOk_iff _ _).1 h
  have hzero : l.reserved - (p.orders.map Order.fill).sum = 0 := Nat.sub_eq_zero_of_le (Nat.le_of_eq hsum)
  unfold Lane.emptied
  rw [hzero]
  rfl

theorem Station.toStandby_eq (x : Station) : x.toStandby =
    if x.state = .operating ∨ x.state = .paused then { x with state := .standby, changed := true }
    else x := by
  unfold Station.toStandby
  cases h : x.state <;> simp <;> rfl

/-- Overflow and the discarded credit are counted apart (R77, R152). -/
theorem Totals.overflowed_discard (gone : List Order) (n : Nat) (t : Totals) :
    (t.discard n).overflowed gone = { t.overflowed gone with
      resetDiscarded := min (t.resetDiscarded + n) 9999999999 } := by
  unfold Totals.overflowed
  split <;> rfl

theorem closing_eq (s : State) : (allLanes.flatMap fun i => closing i s.lanes[i]) =
    (allLanes.filter fun i => (s.lanes[i]).state != .closed).map fun i =>
      .laneMode (laneNo i) .closed := by
  induction allLanes with
  | nil => rfl
  | cons i is ih =>
    rw [List.flatMap_cons, ih, List.filter_cons]
    unfold closing
    by_cases h : (s.lanes[i]).state = .closed
    · have hbne : ((s.lanes[i]).state != .closed) = false := by rw [h]; rfl
      rw [if_pos h, hbne]
      rfl
    · have hbne : ((s.lanes[i]).state != .closed) = true := bne_iff_ne.2 h
      rw [if_neg h, hbne]
      rfl

theorem Port.Took.frames {fs : List Frame} {p q : Port} (h : p.Took fs q) :
    q.all.map Queued.frame = p.all.map Queued.frame ++ fs := by
  obtain ⟨⟨new, hall, rfl⟩, -⟩ := h
  rw [hall, List.map_append]

theorem Port.Took.rest {fs : List Frame} {p q : Port} (h : p.Took fs q) :
    q = { p with queue := q.queue, held := q.held } := h.2

/-- Settles O53: the emptied blocks (`State.resetHall_spec`), then the lane passes (`State.resetLanes_bay`,
`State.resetLanes_emptying`), then the stations and the REPLY. -/
theorem cornerResetEmptiesTheCorner : Obligations.CornerResetEmptiesTheCorner := by
  unfold Obligations.CornerResetEmptiesTheCorner
  intro tag s hreset hlanes hcounters
  obtain ⟨hhall, hfront, hport, hreturned⟩ := State.resetHall_spec s
  have hempty := State.resetLanes_emptying s.resetHall
  obtain ⟨notices, hnotices, hfill⟩ := hempty.front
  have hexec : exec (.cornerReset tag) s = .next (State.reply tag 27 .ok []
      { s.resetHall.resetLanes with
        strokes := [], stations := s.resetHall.resetLanes.stations.map Station.toStandby }) := by
    refine Eq.trans (b := execCornerReset tag s) rfl ?_
    unfold execCornerReset
    rw [live_released hreset]
    rfl
  have hlane := State.resetLanes_lane s.resetHall
  have hpipe := State.resetLanes_pipe s.resetHall
  generalize s.resetHall.resetLanes = v at *
  generalize s.resetHall = u at *
  obtain ⟨honly, hoverflow, htotals, -, hback⟩ := hempty
  have hsame : u.lanes = s.lanes ∧ u.pipes = s.pipes ∧ u.overflow = s.overflow ∧
      u.params = s.params ∧ u.back = s.back ∧ u.stations = s.stations ∧
      u.totals = s.totals.discard s.discarded := by
    rw [hhall]; exact ⟨rfl, rfl, rfl, rfl, rfl, rfl, rfl⟩
  obtain ⟨hulanes, hupipes, huoverflow, huparams, huback, hustations, hutotals⟩ := hsame
  dsimp only at hoverflow htotals hnotices hfill hback
  rw [hupipes] at hoverflow htotals
  rw [huoverflow, huparams] at hoverflow
  rw [huoverflow] at hfill
  rw [hutotals, Totals.overflowed_discard, State.discarded_eq] at htotals
  rw [hulanes, closing_eq, huback] at hback
  have hvreturned : v.returned = u.returned := by rw [honly]
  have hreply := State.reply_sends tag 27 .ok []
    { v with strokes := [], stations := v.stations.map Station.toStandby }
  have hsends := (hnotices.trans hreply.front)
  have hbacks := (hback.trans hreply.back)
  refine ⟨_, u.front.all.map Queued.frame, notices, hexec, fun i => ⟨?_, ?_⟩, fun st => ?_,
    ⟨?_, ?_⟩, ?_, ?_, ?_, ?_, ?_, ?_, fun hs hl => ?_, ?_⟩
  · rw [State.reply_pipes]
    exact hpipe i
  · rw [State.reply_lanes]
    refine (hlane i).trans ?_
    rw [hulanes, hupipes]
    exact (hlanes i).emptied_eq
  · rw [State.reply_stations]
    refine (Vector.getElem_map ..).trans ?_
    rw [show v.stations = s.stations by rw [honly, hustations]]
    exact Station.toStandby_eq _
  · rw [State.reply_overflow]
    exact hoverflow
  · rw [State.reply_totals]
    exact htotals
  · rw [State.reply_returned, ← hreturned hcounters]
    exact hvreturned
  · rw [hreply.rest, honly, hhall]
  · rw [hsends.rest, hport]
  · rw [hbacks.rest]
    rfl
  · rw [hsends.frames, List.append_assoc]
  · rw [State.reply_overflow]
    exact hfill
  · rw [hfront]
    congr 1
    refine List.map_congr_left fun w hw => ?_
    exact returnVerdict_eq_waitingReturn ((linkedOk_iff hs).1 hl) hw .reset
  · rw [hbacks.frames, List.append_nil]
    rfl

end Sys2Proof.Machine
end

section
/-! SUPPORT. Items that are taken out of the Referral List, and the completion of a close: the states that they
leave and the frames that they place (R57, R58, R69, R72, R80, R81). -/

namespace Sys2Proof.Machine

-- One theorem after another: many that wait for the kernel at once take threads and memory.
set_option Elab.async false

/-! ## Frames and changes of records -/

/-- A change that looks at no port and no serial may be made before the frames are placed, or after. -/
theorem Sends.carry {fs bs : List Frame} {s t : State} (g : State → State)
    (hg : ∀ (n : Nat) (p q : Port) (x : State), g { x with serial := n, front := p, back := q } =
      { g x with serial := n, front := p, back := q }) (h : Sends fs bs s t) :
    Sends fs bs (g s) (g t) := by
  have hports (x : State) : (g x).front = x.front ∧ (g x).back = x.back := by
    have hx : g x = _ := hg x.serial x.front x.back x
    exact ⟨(congrArg State.front hx).trans rfl, (congrArg State.back hx).trans rfl⟩
  have ht : g t = { g s with serial := t.serial, front := t.front, back := t.back } := by
    rw [← hg, ← h.rest]
  refine ⟨?_, ?_, ?_⟩
  · rw [(hports s).1, (hports t).1]
    exact h.front
  · rw [(hports s).2, (hports t).2]
    exact h.back
  · rw [ht]

/-- Two changes of one record are one change. -/
theorem State.onSession_onSession (s : State) {n : Nat} {f : Session → Session} (g : Session → Session)
    (hnumber : ∀ x, (f x).number = x.number) :
    (s.onSession n f).onSession n g = s.onSession n fun x => g (f x) := by
  unfold State.onSession
  rw [List.map_map]
  congr 1
  refine List.map_congr_left fun x _ => ?_
  by_cases hx : x.number = n <;> simp [hx, hnumber]

/-! ## Items taken out (R57, R58) -/

/-- The REFERRAL ENDED notices of the records whose items are all taken out, in the order of the list (log
entry 23). -/
def endedNotices (gone : Waiting → Bool) (cause : EndedCause) (rs : List Referral) : List Frame :=
  (rs.filter fun r => r.waiting.all gone).map fun r => .notice (.referralEnded r.number cause)

theorem Referral.without_isEmpty (gone : Waiting → Bool) (r : Referral) :
    (r.without gone).waiting.isEmpty = r.waiting.all gone := by
  rw [Bool.eq_iff_iff]
  simp [Referral.without]

theorem State.removeWaiting_eq (gone : Waiting → Bool) (cause : EndedCause) (s : State) :
    s.removeWaiting gone cause = State.placeAll (endedNotices gone cause s.referrals)
      { s with referrals := withoutItems gone s.referrals } := by
  have hempty : (fun r : Referral => r.waiting.isEmpty) ∘ Referral.without gone =
      fun r => r.waiting.all gone := funext (Referral.without_isEmpty gone)
  unfold State.removeWaiting endedNotices
  dsimp only
  rw [List.filter_map, List.map_map, hempty]
  rfl

theorem State.removeWaiting_sends (gone : Waiting → Bool) (cause : EndedCause) (s : State) :
    Sends (endedNotices gone cause s.referrals) []
      { s with referrals := withoutItems gone s.referrals } (s.removeWaiting gone cause) := by
  rw [State.removeWaiting_eq]
  refine State.placeAll_sends_front (fun f hf => ?_) _
  obtain ⟨r, -, rfl⟩ := List.mem_map.1 hf
  rfl

/-- What is left of a record was in the list, and is not empty. -/
theorem mem_withoutItems {gone : Waiting → Bool} {rs : List Referral} {r : Referral}
    (h : r ∈ withoutItems gone rs) :
    r.waiting ≠ [] ∧ ∃ r' ∈ rs, r'.number = r.number := by
  obtain ⟨hr, hsome⟩ := List.mem_filter.1 h
  obtain ⟨r', hr', rfl⟩ := List.mem_map.1 hr
  exact ⟨by simpa using hsome, r', hr', rfl⟩

/-- Items of one session of a station are no longer held. -/
theorem State.unholdAll_eq {st : Fin 8} {n : Nat} {ws : List Waiting} {s : State}
    (hws : ∀ w ∈ ws, w.station = st ∧ w.session = n) :
    ws.foldl (fun t w => t.unhold w) s = (s.setHeld st (s.heldCounts[st] - ws.length)).onSession n
      fun x => { x with held := x.held - ws.length } := by
  induction ws generalizing s with
  | nil => simp [State.setHeld, State.onSession]
  | cons w ws ih =>
    obtain ⟨rfl, rfl⟩ := hws w List.mem_cons_self
    have hcount := get_of_set (u := s.heldCounts) (v := (s.unhold w).heldCounts)
      (x := s.heldCounts[w.station] - 1) rfl w.station
    rw [if_pos rfl] at hcount
    rw [List.foldl_cons, ih fun v hv => hws v (List.mem_cons_of_mem w hv), hcount, List.length_cons,
      Nat.sub_sub, Nat.add_comm 1]
    have hboth := State.onSession_onSession
      (s.setHeld w.station (s.heldCounts[w.station] - (ws.length + 1))) (n := w.session)
      (f := fun x => { x with held := x.held - 1 }) (fun x => { x with held := x.held - ws.length })
      fun _ => rfl
    have hset : (s.unhold w).setHeld w.station (s.heldCounts[w.station] - (ws.length + 1)) =
        (s.setHeld w.station (s.heldCounts[w.station] - (ws.length + 1))).onSession w.session
          fun x => { x with held := x.held - 1 } := by
      unfold State.unhold State.setHeld State.onSession
      simp only [Vector.set_set]
    rw [hset, hboth]
    simp only [Nat.sub_sub, Nat.add_comm 1]

/-! ## Closes (R69, R72, R80, R81) -/

/-- Session `n`, whose running credit is `credit`, has ended NIL or DONATED and waits in AWAIT_PRINT, behind
those that wait already (R69, R72). -/
def State.toPrint (n credit : Nat) (s : State) : State :=
  { s.onSession n fun y => { y with
      state := .awaitPrint, outcome := some (if credit = 0 then .nothing else .donated) } with
    totals := if credit = 0 then s.totals else s.totals.donate credit, awaiting := s.awaiting ++ [n] }

/-- Session `n` stands at the tail of the voucher queue (R69). -/
def State.toQueue (n : Nat) (s : State) : State :=
  { s.onSession n fun y => { y with state := .queued } with voucherQueue := s.voucherQueue ++ [n] }

/-- Session `n` is ISSUING under a tag, `latest` being the latest frame of its transfer (R80 to R82). -/
def State.toIssue (n tag latest : Nat) (s : State) : State :=
  { s.onSession n fun y => { y with state := .issuing, issueTag := some tag } with
    tagCounter := tag, transfer := .running .request n tag none latest }

@[simp] theorem State.toPrint_front (n credit : Nat) (s : State) :
    (s.toPrint n credit).front = s.front := rfl

@[simp] theorem State.toQueue_front (n : Nat) (s : State) : (s.toQueue n).front = s.front := rfl

@[simp] theorem State.toIssue_front (n tag latest : Nat) (s : State) :
    (s.toIssue n tag latest).front = s.front := rfl

section
variable {s : State} {n : Nat} {x : Session}

/-- An OPEN session has no close that waits. -/
theorem State.settle_of_opened (hx : s.session? n = some x) (hopened : x.state = .opened) :
    s.settle n = s := by
  unfold State.settle
  rw [hx]
  exact if_neg (by simp [hopened])

theorem State.settle_of_ready (hx : s.session? n = some x) (hstate : x.state = .closing)
    (hheld : x.held = 0) : s.settle n = s.completeClose n := by
  unfold State.settle
  rw [hx]
  exact if_pos ⟨hstate, hheld⟩

/-- Where the station is not OPERATING, a decided session waits in AWAIT_PRINT (R72). -/
theorem State.deliver_waits (hx : s.session? n = some x)
    (hstation : (s.stations[x.station]).state ≠ .operating) : s.deliver n =
      { s.onSession n fun y => { y with state := .awaitPrint } with awaiting := s.awaiting ++ [n] } := by
  unfold State.deliver
  rw [hx]
  exact if_neg hstation

/-- The close of a session without credit, or one that is donated, at a station that is not OPERATING. -/
theorem State.completeClose_waits (hx : s.session? n = some x)
    (hdecided : x.credit = 0 ∨ x.disposition = some .donate)
    (hstation : (s.stations[x.station]).state ≠ .operating) :
    s.completeClose n = s.toPrint n x.credit := by
  have hdeliver (t : State) (o : Option SessionOutcome) (hsessions : t.sessions = s.sessions)
      (hstations : t.stations = s.stations) :
      (t.onSession n fun y => { y with outcome := o }).deliver n =
        { t.onSession n (fun y => { y with state := .awaitPrint, outcome := o }) with
          awaiting := t.awaiting ++ [n] } := by
    have hfound := State.onSession_found (s := t) (f := fun y => { y with outcome := o }) (fun _ => rfl)
      ((State.session?_of_same hsessions n).trans hx)
    rw [State.deliver_waits hfound (by simpa [hstations] using hstation), State.onSession_onSession]
    · rfl
    · exact fun _ => rfl
  unfold State.completeClose State.toPrint
  rw [hx]
  dsimp only
  by_cases hcredit : x.credit = 0
  · rw [if_pos hcredit, if_pos hcredit, if_pos hcredit]
    exact hdeliver s _ rfl rfl
  · rw [if_neg hcredit, if_neg hcredit, if_neg hcredit, hdecided.resolve_left hcredit]
    exact hdeliver (s.onTotals (Totals.donate x.credit)) _ rfl rfl

/-- The close of a session whose voucher is to be issued: it joins the voucher queue. -/
theorem State.completeClose_queues (hx : s.session? n = some x) (hcredit : x.credit ≠ 0)
    (hvoucher : x.disposition ≠ some .donate) :
    s.completeClose n = (s.toQueue n).startTransfer := by
  unfold State.completeClose
  rw [hx]
  dsimp only
  rw [if_neg hcredit]
  split
  · next hdonate => exact absurd hdonate hvoucher
  · rfl
  · rfl

theorem State.startTransfer_of_running (h : s.transfer ≠ .idle) : s.startTransfer = s := by
  unfold State.startTransfer
  split
  · next hidle _ => exact absurd hidle h
  · rfl

/-- An idle Voucher Unit begins REQUEST for the head of the queue, under a new tag (R80, R81, R83). -/
theorem State.startTransfer_sends {rest : List Nat} (hidle : s.transfer = .idle)
    (hqueue : s.voucherQueue = n :: rest) (hx : s.session? n = some x) :
    Sends [.voucherRequest (nextTag s) (stationNo x.station) n x.credit x.lines.length] []
      (s.toIssue n (nextTag s) (s.serial + 1)) s.startTransfer := by
  have hfound := State.onSession_found (s := { s with tagCounter := nextTag s })
    (f := fun y => { y with state := .issuing, issueTag := some (nextTag s) }) (fun _ => rfl) hx
  have hnumber : x.number = n := State.session?_number hx
  have hstart : s.startTransfer = State.enterRequest n (nextTag s)
      (State.onSession n (fun y => { y with state := .issuing, issueTag := some (nextTag s) })
        { s with tagCounter := nextTag s }) := by
    refine Eq.trans (b := s.beginRequest n) ?_ rfl
    unfold State.startTransfer
    rw [hidle, hqueue]
  rw [hstart]
  unfold State.enterRequest
  rw [hfound]
  dsimp only [voucherRequestFrame]
  rw [hnumber]
  exact State.place_sends_front rfl _

end

end Sys2Proof.Machine
end

section
/-! PROOFS. ITEM WITHDRAW of an item whose session is OPEN (R57), and the reads of the Referral List and the
Session Table (R59, R76). -/

namespace Sys2Proof.Machine

-- One theorem after another: many that wait for the kernel at once take threads and memory.
set_option Elab.async false

/-! ## ITEM WITHDRAW -/

/-- The record of an item's session when the item is no longer held (R25). -/
theorem State.unhold_session? {s : State} {w : Waiting} {x : Session}
    (hx : s.session? w.session = some x) :
    (s.unhold w).session? w.session = some { x with held := x.held - 1 } :=
  State.onSession_found (s := s.setHeld w.station (s.heldCounts[w.station] - 1))
    (f := fun x => { x with held := x.held - 1 }) (fun _ => rfl) hx

/-- The withdrawn item has left, and an OPEN session has no close to complete. -/
theorem exec_itemWithdraw_opened {src seq : Nat} {payload : List Byte} {st : Fin 8} {w : Waiting}
    {x : Session} {s : State} (hreset : s.resetAsserted = false) (hst : stationIx src = some st)
    (hseq : oneByte payload = some seq) (hw : s.waitingItems.find? (Waiting.names st seq) = some w)
    (hx : s.session? w.session = some x) (hopened : x.state = .opened) :
    exec (.itemWithdraw src payload) s =
      .next ((s.unhold w).removeWaiting (Waiting.names st seq) .withdrawn) := by
  have hrest := (State.removeWaiting_sends (Waiting.names st seq) .withdrawn (s.unhold w)).field
    State.sessions fun _ _ _ _ => rfl
  have hfound := (State.session?_of_same hrest w.session).trans (State.unhold_session? hx)
  refine Eq.trans (b := execItemWithdraw src payload s) rfl ?_
  unfold execItemWithdraw
  rw [live_released hreset]
  simp only [hst, hseq, hw]
  rw [State.settle_of_opened hfound hopened]

/-- A sequence that no held item of the station has is ignored (R57). -/
theorem exec_itemWithdraw_unknown {src seq : Nat} {payload : List Byte} {st : Fin 8} {s : State}
    (hst : stationIx src = some st) (hseq : oneByte payload = some seq)
    (hheld : s.isHeld st seq = false) : exec (.itemWithdraw src payload) s = .next s := by
  have hnone : s.waitingItems.find? (Waiting.names st seq) = none :=
    List.find?_eq_none.2 fun w hw => by simpa [Waiting.names] using List.any_eq_false.1 hheld w hw
  refine Eq.trans (b := execItemWithdraw src payload s) rfl (live_ignored ?_)
  simp only [hst, hseq, hnone]

/-- Settles O22: the frames and the records are those of `State.removeWaiting_sends`, and an OPEN session is
not settled. -/
theorem withdrawnItemLeavesWithoutVerdict : Obligations.WithdrawnItemLeavesWithoutVerdict := by
  unfold Obligations.WithdrawnItemLeavesWithoutVerdict
  refine ⟨fun src seq payload st w x s hreset hst hseq hw hx hopened => ?_,
    fun src seq payload st s hst hseq hheld => exec_itemWithdraw_unknown hst hseq hheld⟩
  refine ⟨_, (s.referrals.filter fun r => r.waiting.all (Waiting.names st seq)).map Referral.number,
    exec_itemWithdraw_opened hreset hst hseq hw hx hopened, ?_, fun n => ?_⟩
  · rw [List.map_map]
    exact State.removeWaiting_sends (Waiting.names st seq) .withdrawn (s.unhold w)
  · simp only [List.mem_map, List.mem_filter, List.filter_eq_nil_iff, List.all_eq_true,
      Bool.not_eq_true', Bool.not_eq_false, and_assoc, and_comm (a := Referral.number _ = n)]

/-! ## READ REFERRALS and READ SESSION -/

/-- Settles O26: each read is its REPLY and nothing else. -/
theorem sessionsAndReferralsAreRead : Obligations.SessionsAndReferralsAreRead := by
  unfold Obligations.SessionsAndReferralsAreRead
  refine ⟨fun tag s hreset => ?_, fun tag s hreset => ?_, fun tag n x s hreset hn hx => ?_,
    fun tag n k x s hreset hn hpos hk hx => ?_⟩
  · exact ⟨_, live_released hreset, State.reply_sends ..⟩
  · exact ⟨_, live_released hreset, State.reply_sends ..⟩
  · refine ⟨_, Eq.trans (b := execReadSessionRecord tag n s) rfl (live_released hreset), ?_⟩
    rw [if_neg hn, hx]
    exact State.reply_sends ..
  · refine ⟨_, Eq.trans (b := execReadSessionLines tag n k s) rfl (live_released hreset), ?_⟩
    rw [if_neg (by omega), hx]
    exact State.reply_sends ..

end Sys2Proof.Machine
end

section
/-! SUPPORT. Leaving service: what it can change at all, the frames that it places, and by the laws of the hall
all that it leaves (`LeftService`; R58, R67, R69, R163). -/

namespace Sys2Proof.Machine

-- One theorem after another: many that wait for the kernel at once take threads and memory.
set_option Elab.async false

/-! ## What leaving service changes -/

/-- `t` differs from `s` at most in the front port, the serial, the Referral List, the counts of held items, the
sessions and their order of AWAIT_PRINT, the Voucher Unit and the corner totals. -/
def LeaveOnly (s t : State) : Prop :=
  t = { s with serial := t.serial, front := t.front, referrals := t.referrals,
               heldCounts := t.heldCounts, sessions := t.sessions, awaiting := t.awaiting,
               voucherQueue := t.voucherQueue, transfer := t.transfer, tagCounter := t.tagCounter,
               totals := t.totals }

theorem LeaveOnly.trans {s t u : State} (h : LeaveOnly s t) (k : LeaveOnly t u) : LeaveOnly s u := by
  unfold LeaveOnly at *
  rw [k, h]

theorem SessionOnly.leaveOnly {s t : State} (h : SessionOnly s t) : LeaveOnly s t := by
  unfold SessionOnly LeaveOnly at *
  rw [h]

theorem State.removeWaiting_leaveOnly (gone : Waiting → Bool) (cause : EndedCause) (s : State) :
    LeaveOnly s (s.removeWaiting gone cause) := by
  rw [State.removeWaiting_eq]
  refine LeaveOnly.trans (t := { s with referrals := withoutItems gone s.referrals }) rfl
    (SessionOnly.placeAll (fun f hf => ?_) _).leaveOnly
  obtain ⟨r, -, rfl⟩ := List.mem_map.1 hf
  rfl

theorem State.unholdAll_leaveOnly (ws : List Waiting) (s : State) :
    LeaveOnly s (ws.foldl (fun t w => t.unhold w) s) := by
  induction ws generalizing s with
  | nil => rfl
  | cons w ws ih => exact LeaveOnly.trans (t := s.unhold w) rfl (ih _)

theorem State.unholdAll_front (ws : List Waiting) (s : State) :
    (ws.foldl (fun t w => t.unhold w) s).front = s.front := by
  induction ws generalizing s with
  | nil => rfl
  | cons w ws ih => exact ih _

theorem State.removeStation_leaveOnly (st : Fin 8) (s : State) : LeaveOnly s (s.removeStation st) :=
  (State.unholdAll_leaveOnly _ s).trans (State.removeWaiting_leaveOnly _ _ _)

/-- All that leaving service may change (R58, R67). -/
theorem State.leaveService_leaveOnly (st : Fin 8) (s : State) : LeaveOnly s (s.leaveService st) := by
  refine (State.removeStation_leaveOnly st s).trans ?_
  unfold State.leaveService
  dsimp only
  split
  · split
    · exact (State.closeSession_sessionOnly _ _ _).leaveOnly
    · exact (State.settle_sessionOnly _ _).leaveOnly
  · rfl

/-- The frames of leaving service go to the front link. -/
theorem State.leaveService_took (st : Fin 8) (s : State) :
    ∃ fs, s.front.Took fs (s.leaveService st).front := by
  have hremoved : ∃ fs, s.front.Took fs (s.removeStation st).front := by
    have hsends := (State.removeWaiting_sends (fun w => w.station == st) .station
      ((s.waitingItems.filter fun w => w.station == st).foldl (fun t w => t.unhold w) s)).front
    dsimp only at hsends
    rw [State.unholdAll_front] at hsends
    exact ⟨_, hsends⟩
  have hbehind {t u : State} (h : t.front = (s.removeStation st).front) (k : Quietly t u) :
      ∃ fs, s.front.Took fs u.front := by
    obtain ⟨fs, hfs⟩ := hremoved
    obtain ⟨gs, hgs, -⟩ := k.frames
    exact ⟨_, hfs.trans (h ▸ hgs)⟩
  unfold State.leaveService
  dsimp only
  split
  · split
    · exact hbehind (t := State.onSession _ _ _) rfl (State.settle_quietly _ _)
    · exact hbehind rfl (State.settle_quietly _ _)
  · exact hremoved

/-- The items of the station leave the Referral List, and the others stay in their order (R58). -/
theorem State.leaveService_records (st : Fin 8) (s : State) :
    (s.leaveService st).referrals = withoutItems (fun w => w.station == st) s.referrals :=
  (State.leaveService_referrals st s).trans (congrArg Prod.fst (State.removeStation_hall st s))

/-! ## The items of the station -/

section
variable {H : List Waiting} {out : Nat → Prop} {s : State} {st : Fin 8}

/-- A held item of a station belongs to the current session of the station, and no other item does. -/
theorem Seated.session_eq_iff (h : Seated H out s) {x : Session} (hx : s.current? st = some x)
    {w : Waiting} (hw : w ∈ H) : w.session = x.number ↔ w.station = st := by
  obtain ⟨hmem, hstation, hcurrent⟩ := State.current?_spec hx
  have hfound := h.known x hmem
  obtain ⟨y, hy, hst, hc⟩ := h.owner w hw
  constructor
  · intro hn
    rw [hn, hfound] at hy
    cases hy
    exact hst.symm.trans hstation
  · exact fun hws => h.unique _ _ y x hy hfound hc hcurrent (hst.trans (hws.trans hstation.symm))

/-- The items of a station that has no current session are none. -/
theorem Seated.idle_filter (h : Seated H out s) (hnone : s.current? st = none) :
    H.filter (fun w => w.station == st) = [] := by
  refine List.filter_eq_nil_iff.2 fun w hw hst => ?_
  obtain ⟨x, hx, hstation, hcurrent⟩ := h.owner w hw
  have hfree := List.find?_eq_none.1 hnone x (State.mem_of_session? hx)
  simp only [hstation, hst, hcurrent, Bool.and_true, not_true_eq_false] at hfree

/-- Nothing is held of a station without a current session, and its count of held items is 0. -/
theorem State.removeStation_idle (h : Seated s.waitingItems out s) (hnone : s.current? st = none) :
    Sends (endedNotices (fun w => w.station == st) .station s.referrals) []
      { s.setHeld st 0 with referrals := withoutItems (fun w => w.station == st) s.referrals }
      (s.removeStation st) := by
  have hfilter := h.idle_filter hnone
  have hzero : s.heldCounts[st] = 0 := by
    rw [h.counts, List.countP_eq_length_filter, hfilter]
    rfl
  have hset : s.heldCounts = s.heldCounts.set st.val 0 st.isLt := hzero ▸ set_same rfl st
  unfold State.removeStation State.setHeld
  rw [hfilter, List.foldl_nil, ← hset]
  exact State.removeWaiting_sends (fun w => w.station == st) .station s

/-- A station's items are no longer in the Referral List, and neither the station nor its session `x` counts
one any more. -/
def State.cleared (st : Fin 8) (x : Session) (s : State) : State :=
  { (s.setHeld st 0).onSession x.number (fun y => { y with held := 0 }) with
    referrals := withoutItems (fun w => w.station == st) s.referrals }

/-- The items of a station are those of its current session. -/
theorem State.removeStation_current {x : Session} (hs : SessionsOk s) (h : Seated s.waitingItems out s)
    (hx : s.current? st = some x) :
    Sends (endedNotices (fun w => w.station == st) .station s.referrals) [] (s.cleared st x)
      (s.removeStation st) := by
  have hfound := State.session?_of_current? hs hx
  have hheld : x.held = (s.waitingItems.filter fun w => w.station == st).length := by
    rw [h.held _ _ hfound, List.countP_eq_length_filter]
    congr 1
    refine List.filter_congr fun w hw => ?_
    rw [Bool.eq_iff_iff, beq_iff_eq, beq_iff_eq]
    exact h.session_eq_iff hx hw
  have hcount : s.heldCounts[st] = (s.waitingItems.filter fun w => w.station == st).length := by
    rw [h.counts, List.countP_eq_length_filter]
  have hone : ∀ w ∈ s.waitingItems.filter fun w => w.station == st,
      w.station = st ∧ w.session = x.number := fun w hw => by
    obtain ⟨hw, hst⟩ := List.mem_filter.1 hw
    exact ⟨beq_iff_eq.1 hst, (h.session_eq_iff hx hw).2 (beq_iff_eq.1 hst)⟩
  have hzero := State.onSession_congr (s := s.setHeld st 0) (x := x)
    (f := fun y => { y with held := y.held - x.held }) (g := fun y => { y with held := 0 }) hs hfound
    (by rw [Nat.sub_self])
  have hunheld : (s.waitingItems.filter fun w => w.station == st).foldl (fun t w => t.unhold w) s =
      (s.setHeld st 0).onSession x.number fun y => { y with held := 0 } := by
    rw [State.unholdAll_eq hone, hcount, Nat.sub_self, ← hheld, hzero]
  unfold State.removeStation
  rw [hunheld]
  exact State.removeWaiting_sends (fun w => w.station == st) .station
    ((s.setHeld st 0).onSession x.number fun y => { y with held := 0 })

end

/-! ## The session of the station -/

/-- The disposition with which the session of a station that leaves service closes: the idle disposition for
one in OPEN, its own for one in CLOSING (R67, R69). -/
def State.leavingDisposition (s : State) (x : Session) : Disposition :=
  if x.state = .opened then s.params.idleDisposition else x.disposition.getD .voucher

/-- A session in CLOSING with a disposition, its idle timer stopped (R68). -/
def Session.closing (d : Disposition) (x : Session) : Session :=
  { x with state := .closing, disposition := some d, idleExpiry := none }

/-- A session in CLOSING of which nothing is held any more. -/
def Session.leaving (d : Disposition) (x : Session) : Session := { x.closing d with held := 0 }

/-- What a station that leaves service leaves before the close of its session `x` completes. -/
def State.vacated (st : Fin 8) (x : Session) (s : State) : State :=
  { (s.setHeld st 0).onSession x.number (Session.leaving (s.leavingDisposition x)) with
    referrals := withoutItems (fun w => w.station == st) s.referrals }

@[simp] theorem State.vacated_front (st : Fin 8) (x : Session) (s : State) :
    (s.vacated st x).front = s.front := rfl

section
variable {out : Nat → Prop} {s : State} {st : Fin 8} {x : Session}

theorem State.vacated_of_opened (hopened : x.state = .opened) : s.vacated st x =
    (s.cleared st x).onSession x.number (Session.closing s.params.idleDisposition) := by
  have hboth := State.onSession_onSession (s.setHeld st 0) (n := x.number)
    (f := fun y => { y with held := 0 }) (Session.closing s.params.idleDisposition) fun _ => rfl
  have hd : s.leavingDisposition x = s.params.idleDisposition := if_pos hopened
  unfold State.vacated
  rw [hd]
  exact congrArg (fun t : State => { t with
    referrals := withoutItems (fun w => w.station == st) s.referrals }) hboth.symm

/-- A session in CLOSING keeps its disposition and has no idle timer. -/
theorem Seated.leaving_of_closing (h : Seated s.waitingItems out s) (hx : s.session? x.number = some x)
    (hclosing : x.state = .closing) : x.leaving (s.leavingDisposition x) = { x with held := 0 } := by
  have hopened : x.state ≠ .opened := by simp [hclosing]
  obtain ⟨hdisposition, hidle⟩ := h.closed _ _ hx hopened
  obtain ⟨d, hd⟩ := Option.isSome_iff_exists.1 hdisposition
  have hleaving : s.leavingDisposition x = d := by
    unfold State.leavingDisposition
    rw [if_neg hopened, hd]
    rfl
  unfold Session.leaving Session.closing
  rw [hleaving, ← hd, ← hidle, ← hclosing]

theorem State.vacated_of_closing (hs : SessionsOk s) (hx : s.session? x.number = some x)
    (hsame : x.leaving (s.leavingDisposition x) = { x with held := 0 }) :
    s.vacated st x = s.cleared st x := by
  unfold State.vacated State.cleared
  rw [State.onSession_congr (s := s.setHeld st 0)
    (f := Session.leaving (s.leavingDisposition x)) (g := fun y => { y with held := 0 }) hs hx hsame]

/-- A station that leaves service completes the close of its session. -/
theorem State.leaveService_closes (hs : SessionsOk s) (h : Seated s.waitingItems out s)
    (hx : s.current? st = some x) : ∃ w, s.leaveService st = w.completeClose x.number ∧
      w.session? x.number = some (x.leaving (s.leavingDisposition x)) ∧
      Sends (endedNotices (fun w => w.station == st) .station s.referrals) [] (s.vacated st x) w := by
  have hfound := State.session?_of_current? hs hx
  have hsends := State.removeStation_current hs h hx
  have hsessions := hsends.field State.sessions fun _ _ _ _ => rfl
  have hparams := hsends.field State.params fun _ _ _ _ => rfl
  have hcurrent : (s.removeStation st).current? st = some { x with held := 0 } := by
    have hread := State.onSession_current? s x.number (fun y => { y with held := 0 }) st (fun _ => rfl)
      fun _ => rfl
    rw [hx, Option.map_some, if_pos rfl] at hread
    unfold State.current?
    rw [hsessions]
    exact hread
  have hread : (s.removeStation st).session? x.number = some { x with held := 0 } :=
    (State.session?_of_same hsessions _).trans
      (State.onSession_found (f := fun y => { y with held := 0 }) (fun _ => rfl) hfound)
  unfold State.leaveService
  dsimp only
  rw [hcurrent]
  dsimp only
  by_cases hopened : x.state = .opened
  · have hd : s.leavingDisposition x = s.params.idleDisposition := if_pos hopened
    rw [if_pos hopened, hparams, State.vacated_of_opened hopened, hd]
    have hready := State.onSession_found (s := s.removeStation st)
      (f := Session.closing s.params.idleDisposition) (fun _ => rfl) hread
    exact ⟨_, State.settle_of_ready hready rfl rfl, hready, hsends.carry _ fun _ _ _ _ => rfl⟩
  · have hclosing : x.state = .closing := by
      obtain ⟨-, -, hstands⟩ := State.current?_spec hx
      simp only [Session.isCurrent, Bool.or_eq_true, beq_iff_eq] at hstands
      exact hstands.resolve_left hopened
    have hsame := h.leaving_of_closing hfound hclosing
    rw [if_neg hopened, State.vacated_of_closing hs hfound hsame]
    exact ⟨_, State.settle_of_ready hread hclosing rfl, by rwa [hsame], hsends⟩

end

/-! ## All that it leaves -/

theorem LeftService.sends {st : Fin 8} {pre fs bs : List Frame} {s t u : State}
    (h : LeftService st pre s t) (k : Sends fs bs t u) : LeftService st pre s u := by
  rw [k.rest]
  exact h

/-- The session records of a station that has left service: that of `x` is `z`. -/
theorem State.vacated_sessions {s : State} {st : Fin 8} {x z : Session} (hs : SessionsOk s)
    (hx : s.session? x.number = some x) {f : Session → Session}
    (hz : f (x.leaving (s.leavingDisposition x)) = z) :
    ((s.vacated st x).onSession x.number f).sessions =
      s.sessions.map fun v => if v.number = x.number then z else v := by
  have hboth := State.onSession_onSession s (n := x.number)
    (f := Session.leaving (s.leavingDisposition x)) f fun _ => rfl
  exact congrArg State.sessions (hboth.trans (State.onSession_congr (g := fun _ => z) hs hx hz))

section
variable {out : Nat → Prop} {s : State} {st : Fin 8} {x : Session}

/-- A session without credit, or one that is donated, waits in AWAIT_PRINT (R72). -/
theorem LeftService.toPrint (hs : SessionsOk s) (hx : s.current? st = some x)
    (hdecided : x.credit = 0 ∨ s.leavingDisposition x = .donate) :
    LeftService st (endedNotices (fun w => w.station == st) .station s.referrals) s
      ((s.vacated st x).toPrint x.number x.credit) := by
  have hfound := State.session?_of_current? hs hx
  have hsessions := State.vacated_sessions (st := st) hs hfound (f := fun y => { y with
    state := .awaitPrint, outcome := some (if x.credit = 0 then .nothing else .donated) })
    (z := { x with
      held := 0, disposition := some (s.leavingDisposition x), idleExpiry := none, state := .awaitPrint,
      outcome := some (if x.credit = 0 then .nothing else .donated) }) rfl
  unfold LeftService
  rw [hx]
  dsimp only
  unfold State.leavingDisposition at hdecided hsessions
  rw [if_pos hdecided]
  unfold State.toPrint State.vacated at *
  dsimp only [State.onSession, State.setHeld] at *
  exact ⟨rfl, rfl, rfl, hsessions, rfl, rfl, rfl, rfl, rfl⟩

/-- While a transfer stands, a session whose voucher is to be issued waits in the queue (R81). -/
theorem LeftService.toQueue (hs : SessionsOk s) (hx : s.current? st = some x)
    (hvoucher : ¬(x.credit = 0 ∨ s.leavingDisposition x = .donate)) (hrunning : s.transfer ≠ .idle) :
    LeftService st (endedNotices (fun w => w.station == st) .station s.referrals) s
      ((s.vacated st x).toQueue x.number) := by
  have hfound := State.session?_of_current? hs hx
  have hsessions := State.vacated_sessions (st := st) hs hfound
    (f := fun y => { y with state := .queued })
    (z := { x with
      held := 0, disposition := some (s.leavingDisposition x), idleExpiry := none,
      state := .queued }) rfl
  unfold LeftService
  rw [hx]
  dsimp only
  unfold State.leavingDisposition at hvoucher hsessions
  rw [if_neg hvoucher, if_neg hrunning]
  unfold State.toQueue State.vacated at *
  dsimp only [State.onSession, State.setHeld] at *
  exact ⟨rfl, rfl, rfl, hsessions, rfl, rfl, rfl, rfl, rfl⟩

/-- With the transfer IDLE, and so no session queued, its voucher is requested at once (R81, R83). -/
theorem LeftService.toIssue (hs : SessionsOk s) (hx : s.current? st = some x)
    (hvoucher : ¬(x.credit = 0 ∨ s.leavingDisposition x = .donate)) (hidle : s.transfer = .idle)
    (hqueue : s.voucherQueue = []) (latest : Nat) :
    LeftService st (endedNotices (fun w => w.station == st) .station s.referrals ++
        [.voucherRequest (nextTag s) (stationNo st) x.number x.credit x.lines.length]) s
      (((s.vacated st x).toQueue x.number).toIssue x.number (nextTag s) latest) := by
  have hfound := State.session?_of_current? hs hx
  have hboth := State.onSession_onSession (s.vacated st x) (n := x.number)
    (f := fun y => { y with state := .queued })
    (fun y => { y with state := .issuing, issueTag := some (nextTag s) }) fun _ => rfl
  have hsessions := (congrArg State.sessions hboth).trans (State.vacated_sessions (st := st) hs hfound
    (f := fun y => { y with state := .issuing, issueTag := some (nextTag s) })
    (z := { x with
      held := 0, disposition := some (s.leavingDisposition x), idleExpiry := none, state := .issuing,
      issueTag := some (nextTag s) }) rfl)
  unfold LeftService
  rw [hx]
  dsimp only
  unfold State.leavingDisposition at hvoucher hsessions
  rw [if_neg hvoucher, if_pos hidle]
  unfold State.toIssue State.toQueue State.vacated at *
  dsimp only [State.onSession, State.setHeld] at *
  exact ⟨rfl, rfl, latest, rfl, hsessions, rfl, congrArg (· ++ [x.number]) hqueue, rfl, rfl, rfl⟩

/-- A station that leaves service with no session leaves only its place in the Referral List. -/
theorem LeftService.idle (hnone : s.current? st = none) :
    LeftService st (endedNotices (fun w => w.station == st) .station s.referrals) s
      { s.setHeld st 0 with referrals := withoutItems (fun w => w.station == st) s.referrals } := by
  unfold LeftService
  rw [hnone]
  exact ⟨rfl, rfl, rfl, rfl, rfl, rfl, rfl, rfl, rfl⟩

/-- What leaving service places and leaves where the station has no session. -/
theorem State.leaveService_idle (h : Seated s.waitingItems out s) (hnone : s.current? st = none) :
    ∃ pre, LeftService st pre s (s.leaveService st) ∧ s.front.Took pre (s.leaveService st).front := by
  have hsends := State.removeStation_idle h hnone
  have hcurrent : (s.removeStation st).current? st = none := by
    unfold State.current?
    rw [hsends.field State.sessions fun _ _ _ _ => rfl]
    exact hnone
  have hleaves : s.leaveService st = s.removeStation st := by
    unfold State.leaveService
    dsimp only
    rw [hcurrent]
  rw [hleaves]
  exact ⟨_, (LeftService.idle hnone).sends hsends, hsends.front⟩

/-- What it places and leaves where the session of the station ends NIL or DONATED. -/
theorem State.leaveService_print (hs : SessionsOk s) (h : Seated s.waitingItems out s)
    (hx : s.current? st = some x) (hstation : (s.stations[st]).state ≠ .operating)
    (hdecided : x.credit = 0 ∨ s.leavingDisposition x = .donate) :
    ∃ pre, LeftService st pre s (s.leaveService st) ∧ s.front.Took pre (s.leaveService st).front := by
  obtain ⟨-, hst, -⟩ := State.current?_spec hx
  obtain ⟨w, hleaves, hread, hsends⟩ := State.leaveService_closes hs h hx
  have hstations : w.stations = s.stations := hsends.field State.stations fun _ _ _ _ => rfl
  rw [hleaves, State.completeClose_waits hread (hdecided.imp id (congrArg some))
    (by rw [hstations]; exact hst ▸ hstation)]
  have hprint := hsends.carry (State.toPrint x.number x.credit) fun _ _ _ _ => rfl
  have hfront := hprint.front
  rw [State.toPrint_front, State.vacated_front] at hfront
  exact ⟨_, (LeftService.toPrint hs hx hdecided).sends hprint, hfront⟩

/-- What it places and leaves where the session of the station joins the voucher queue. -/
theorem State.leaveService_voucher (hs : SessionsOk s) (h : Linked s.waitingItems out s)
    (hx : s.current? st = some x) (hvoucher : ¬(x.credit = 0 ∨ s.leavingDisposition x = .donate)) :
    ∃ pre, LeftService st pre s (s.leaveService st) ∧ s.front.Took pre (s.leaveService st).front := by
  obtain ⟨-, hst, -⟩ := State.current?_spec hx
  obtain ⟨w, hleaves, hread, hsends⟩ := State.leaveService_closes hs h.seats hx
  obtain ⟨hcredit, hdonate⟩ := not_or.1 hvoucher
  have htransfer : w.transfer = s.transfer := hsends.field State.transfer fun _ _ _ _ => rfl
  have hqueued := hsends.carry (State.toQueue x.number) fun _ _ _ _ => rfl
  rw [hleaves, State.completeClose_queues hread hcredit fun hd => hdonate (Option.some.inj hd)]
  by_cases hidle : s.transfer = .idle
  · have hqueue : s.voucherQueue = [] := by
      have hlaw := h.queue
      rw [hidle] at hlaw
      exact hlaw.rest.1
    have hwqueue : w.voucherQueue = [] :=
      (hsends.field State.voucherQueue fun _ _ _ _ => rfl).trans hqueue
    have htag : nextTag (w.toQueue x.number) = nextTag s :=
      hsends.field nextTag fun _ _ _ _ => rfl
    have hstart : Sends [.voucherRequest (nextTag s) (stationNo st) x.number x.credit
        x.lines.length] [] ((w.toQueue x.number).toIssue x.number (nextTag s) (w.serial + 1))
        (w.toQueue x.number).startTransfer := by
      rw [← htag, ← hst]
      exact State.startTransfer_sends (s := w.toQueue x.number)
        (x := { x.leaving (s.leavingDisposition x) with state := .queued }) (htransfer.trans hidle)
        (congrArg (· ++ [x.number]) hwqueue)
        (State.onSession_found (f := fun y => { y with state := .queued }) (fun _ => rfl) hread)
    have hissued := (hqueued.carry (State.toIssue x.number (nextTag s) (w.serial + 1))
      fun _ _ _ _ => rfl).trans hstart
    have hfront := hissued.front
    rw [State.toIssue_front, State.toQueue_front, State.vacated_front] at hfront
    exact ⟨_, (LeftService.toIssue hs hx hvoucher hidle hqueue _).sends hissued, hfront⟩
  · rw [State.startTransfer_of_running (s := w.toQueue x.number) (htransfer.trans_ne hidle)]
    have hfront := hqueued.front
    rw [State.toQueue_front, State.vacated_front] at hfront
    exact ⟨_, (LeftService.toQueue hs hx hvoucher hidle).sends hqueued, hfront⟩

/-- By the laws of the hall a station that is not OPERATING any more leaves service as R58, R67 and R69
say. -/
theorem State.leaveService_left (hs : SessionsOk s) (h : Linked s.waitingItems out s)
    (hstation : (s.stations[st]).state ≠ .operating) :
    ∃ pre, LeftService st pre s (s.leaveService st) ∧ s.front.Took pre (s.leaveService st).front := by
  cases hx : s.current? st with
  | none => exact State.leaveService_idle h.seats hx
  | some x =>
    by_cases hdecided : x.credit = 0 ∨ s.leavingDisposition x = .donate
    · exact State.leaveService_print hs h.seats hx hstation hdecided
    · exact State.leaveService_voucher hs h hx hdecided

end

end Sys2Proof.Machine
end

section
/-! PROOFS. The loss of a station (R58, R67, R69, R159, R161 to R163, R166), and STATION GO (R73, R164, R165). -/

namespace Sys2Proof.Machine

-- One theorem after another: many that wait for the kernel at once take threads and memory.
set_option Elab.async false

/-! ## A station that is attached no more -/

/-- By the laws of the hall the items and the session of a station leave as R58, R67 and R69 say, its record
having been changed. -/
theorem LeftService.of_took {s : State} {st : Fin 8} {y : Station} {pre : List Frame}
    (hs : SessionsOk s) (hl : LinkedOk s) (hstate : y.state ≠ .operating)
    (htook : s.front.Took pre ((s.setStation st y).leaveService st).front) :
    LeftService st pre s ((s.setStation st y).leaveService st) := by
  obtain ⟨seats, queue, print⟩ := (linkedOk_iff hs).1 hl
  have hlinked : Linked (s.setStation st y).waitingItems ((s.setStation st y).AtStation st)
      (s.setStation st y) :=
    ⟨seats.setStation (fun n x hx _ hst hn => absurd ⟨x, hx, hst⟩ hn) fun _ _ => not_false, queue, print⟩
  have hmode : ((s.setStation st y).stations[st]).state ≠ .operating := by rwa [State.setStation_self]
  obtain ⟨pre', hleft, htook'⟩ := State.leaveService_left (s := s.setStation st y) hs hlinked hmode
  rw [htook.unique htook']
  exact hleft

/-- The station `st`, whose record is now `y`, has left service with the frames `pre` (R58, R67, R163). -/
structure Vacates (st : Fin 8) (y : Station) (pre : List Frame) (s t : State) : Prop where
  only : LeaveOnly (s.setStation st y) t
  records : t.referrals = withoutItems (fun w => w.station == st) s.referrals
  front : s.front.Took pre t.front
  left : SessionsOk s → LinkedOk s → LeftService st pre s t

theorem State.leaveService_vacates {st : Fin 8} {y : Station} (s : State) (hstate : y.state ≠ .operating) :
    ∃ pre, Vacates st y pre s ((s.setStation st y).leaveService st) := by
  obtain ⟨pre, htook⟩ := State.leaveService_took st (s.setStation st y)
  exact ⟨pre, State.leaveService_leaveOnly st _, State.leaveService_records st _, htook,
    fun hs hl => .of_took hs hl hstate htook⟩

/-- No item of the station waits any more. -/
theorem Vacates.items {st : Fin 8} {y : Station} {pre : List Frame} {s t : State}
    (h : Vacates st y pre s t) : ∀ w ∈ t.waitingItems, w.station ≠ st := by
  intro w hw
  rw [State.waitingItems_eq, h.records, itemsOf_withoutItems] at hw
  simpa using (List.mem_filter.1 hw).2

/-! ## Loss -/

theorem oneByte_kind (k : StationKind) :
    (oneByte [BitVec.ofNat 8 k.code]).bind StationKind.ofCode = some k := by
  cases k <;> rfl

section
variable {st : Fin 8} {s : State}

/-- The silence timer of an attached station runs out (R161). -/
theorem exec_silenceExpiry_loses {e : Nat} (hreset : s.resetAsserted = false)
    (hattached : (s.stations[st]).state.attached = true)
    (hexpiry : (s.stations[st]).silenceExpiry = some e) (he : e ≤ s.now) :
    exec (.silenceExpiry (stationNo st)) s = .next (s.lose st .silent .silent none) := by
  refine Eq.trans (b := execSilenceExpiry (stationNo st) s) rfl ?_
  unfold execSilenceExpiry
  rw [live_released hreset]
  simp only [stationIx_stationNo, hexpiry]
  rw [if_pos ⟨hattached, he⟩]

/-- An attached station announces another kind (R162). -/
theorem exec_announce_loses {k : StationKind} (hreset : s.resetAsserted = false)
    (hattached : (s.stations[st]).state.attached = true) (hkind : (s.stations[st]).kind ≠ some k) :
    exec (.announce (stationNo st) [BitVec.ofNat 8 k.code]) s =
      .next (s.lose st .kind .kind (some k)) := by
  have hhear : s.hearAnnounce st k = s.lose st .kind .kind (some k) := if_neg hkind
  refine Eq.trans (b := execAnnounce (stationNo st) [BitVec.ofNat 8 k.code] s) rfl ?_
  unfold execAnnounce
  rw [live_released hreset]
  simp only [stationIx_stationNo, oneByte_kind]
  cases hstate : (s.stations[st]).state
  case standby | operating | paused => rw [← hhear]
  all_goals
    rw [hstate] at hattached
    cases hattached

end

/-- Settles O45: either cause ends in `State.lose`, and leaving service is that of `LeftService.of_took`. -/
theorem silentOrChangedStationIsLost : Obligations.SilentOrChangedStationIsLost := by
  unfold Obligations.SilentOrChangedStationIsLost
  intro c st loss cause announced s hreset hattached hcause
  have hexec : exec c s = .next (s.lose st loss cause announced) := by
    rcases hcause with ⟨e, rfl, hexpiry, he, rfl, rfl, rfl⟩ | ⟨k, rfl, hkind, rfl, rfl, rfl⟩
    · exact exec_silenceExpiry_loses hreset hattached hexpiry he
    · exact exec_announce_loses hreset hattached hkind
  obtain ⟨pre, hvacates⟩ := State.leaveService_vacates s (st := st) (y := { s.stations[st] with
    state := .lost, lossCause := some loss, silenceExpiry := none, changed := true }) nofun
  have hlose : s.lose st loss cause announced = ((s.setStation st { s.stations[st] with
      state := .lost, lossCause := some loss, silenceExpiry := none,
      changed := true }).leaveService st).notify (.stationChange (stationNo st) (s.stations[st]).state
        .lost cause (s.stations[st]).kind announced) := rfl
  rw [hlose] at hexec
  generalize State.leaveService st _ = u at hvacates hexec
  have hnotice := State.notify_sends (.stationChange (stationNo st) (s.stations[st]).state .lost cause
    (s.stations[st]).kind announced) u
  have hstations := congrArg State.stations hvacates.only
  refine ⟨_, pre, hexec, hstations, hvacates.items, fun r hr => mem_withoutItems (hvacates.records ▸ hr),
    hvacates.records, fun hs hl => (hvacates.left hs hl).sends hnotice,
    hvacates.front.trans hnotice.front, ?_⟩
  rw [State.notify_stations, hstations]
  exact hvacates.only.trans rfl

/-! ## STATION GO -/

section
variable {st : Fin 8} {s : State}

/-- A STATION MODE frame announces the state that a station has entered (R165). -/
theorem State.enterMode_sends (st : Fin 8) (mode : StationState) (s : State) :
    Sends [.stationMode (stationNo st) mode (s.stations[st]).kind] []
      (s.setStation st ((s.stations[st]).enter mode)) (s.enterMode st mode) :=
  State.place_sends_front rfl _

theorem exec_stationGoListen (tag : Byte) (hreset : s.resetAsserted = false)
    (hstate : (s.stations[st]).state = .off ∨ (s.stations[st]).state = .lost) :
    exec (.stationGoListen tag (stationNo st)) s = .next ((s.setStation st
      { (s.stations[st]).enter .listening with
        attachCount := 0, attachKind := none, lossCause := none }).reply tag 24 .ok []) := by
  refine Eq.trans (b := execStationGoListen tag (stationNo st) s) rfl ?_
  unfold execStationGoListen
  rw [live_released hreset]
  simp only [stationIx_stationNo]
  rcases hstate with hstate | hstate <;> rw [hstate]

theorem exec_stationGoOperate (tag : Byte) (hreset : s.resetAsserted = false)
    (hstate : (s.stations[st]).state = .standby ∨ (s.stations[st]).state = .paused) :
    exec (.stationGoOperate tag (stationNo st)) s =
      .next (((s.enterMode st .operating).deliverAwaiting st).reply tag 24 .ok []) := by
  refine Eq.trans (b := execStationGoOperate tag (stationNo st) s) rfl ?_
  unfold execStationGoOperate
  rw [live_released hreset]
  simp only [stationIx_stationNo]
  rcases hstate with hstate | hstate <;> rw [hstate]

theorem exec_stationGoPause (tag : Byte) (hreset : s.resetAsserted = false)
    (hstate : (s.stations[st]).state = .operating) :
    exec (.stationGoPause tag (stationNo st)) s =
      .next ((s.enterMode st .paused).reply tag 24 .ok []) := by
  refine Eq.trans (b := execStationGoPause tag (stationNo st) s) rfl ?_
  unfold execStationGoPause
  rw [live_released hreset]
  simp only [stationIx_stationNo]
  rw [hstate]

theorem exec_stationGoOff (tag : Byte) (hreset : s.resetAsserted = false) :
    exec (.stationGoOff tag (stationNo st)) s = .next (State.reply tag 24 .ok []
      (if (s.stations[st]).state = .off then s else s.turnOff st)) := by
  refine Eq.trans (b := execStationGoOff tag (stationNo st) s) rfl ?_
  unfold execStationGoOff
  rw [live_released hreset]
  simp only [stationIx_stationNo]
  split <;> rfl

/-- A station that is not attached is turned off by its record alone (R165). -/
theorem stationGoOff_unattached (tag : Byte) (hreset : s.resetAsserted = false) {y : Station}
    (h : (s.stations[st]).state = .listening ∧
        y = { (s.stations[st]).enter .off with attachCount := 0, attachKind := none } ∨
      (s.stations[st]).state = .lost ∧ y = { (s.stations[st]).enter .off with lossCause := none }) :
    ∃ t, exec (.stationGoOff tag (stationNo st)) s = .next t ∧
      Sends (.stationMode (stationNo st) .off (s.stations[st]).kind :: replyFrames tag 24 .ok []) []
        (s.setStation st y) t := by
  have hmode : (s.stations[st]).state ≠ .off ∧
      Sends [.stationMode (stationNo st) .off (s.stations[st]).kind] [] (s.setStation st y)
        (s.turnOff st) := by
    unfold State.turnOff
    dsimp only
    rcases h with ⟨hstate, rfl⟩ | ⟨hstate, rfl⟩
    all_goals
      rw [hstate]
      exact ⟨nofun, State.place_sends_front rfl _⟩
  obtain ⟨hoff, hsends⟩ := hmode
  have hexec := exec_stationGoOff (st := st) (s := s) tag hreset
  rw [if_neg hoff] at hexec
  exact ⟨_, hexec, hsends.trans (State.reply_sends tag 24 .ok [] _)⟩

/-- An attached station leaves service before its STATION MODE OFF (R163). -/
theorem State.turnOff_attached (h : (s.stations[st]).state.attached = true) :
    s.turnOff st = State.place (.stationMode (stationNo st) .off (s.stations[st]).kind)
      ((s.setStation st { (s.stations[st]).enter .off with silenceExpiry := none }).leaveService st) := by
  unfold State.turnOff
  dsimp only
  cases hstate : (s.stations[st]).state
  case standby | operating | paused => rfl
  all_goals
    rw [hstate] at h
    cases h

/-- Free the session records of a list of numbers (R61, R72). -/
def State.freeSessions (gone : List Nat) (s : State) : State :=
  { s with sessions := s.sessions.filter fun y => !gone.contains y.number,
           awaiting := s.awaiting.filter fun n => !gone.contains n }

theorem State.freeSessions_nil (s : State) : s.freeSessions [] = s := by
  simp [State.freeSessions]

theorem State.freeSessions_cons (n : Nat) (gone : List Nat) (s : State) :
    s.freeSessions (n :: gone) = (s.freeSession n).freeSessions gone := by
  have hnot (m : Nat) : (!(n :: gone).contains m) = (!gone.contains m && m != n) := by
    rw [List.contains_cons, Bool.not_or, Bool.and_comm]
    rfl
  unfold State.freeSessions State.freeSession
  simp only [List.filter_filter, hnot]

/-- The SESSION RESULTs of sessions of the station go in their order, and their records are freed (R73). -/
theorem State.sendResults_sends (st : Fin 8) (xs : List Session) (s : State) :
    Sends ((xs.filter fun y => y.station == st).map fun y => .sessionResult (stationNo st) y.result) []
      (s.freeSessions ((xs.filter fun y => y.station == st).map Session.number))
      (xs.foldl (fun t x => if x.station = st then t.sendResult x else t) s) := by
  induction xs generalizing s with
  | nil =>
    rw [List.filter_nil, List.map_nil, List.map_nil, State.freeSessions_nil]
    exact Sends.refl s
  | cons x xs ih =>
    rw [List.foldl_cons]
    by_cases hst : x.station = st
    · have hfirst : Sends [.sessionResult (stationNo st) x.result] [] (s.freeSession x.number)
          (s.sendResult x) := by
        rw [← hst]
        exact (State.place_sends_front rfl s).carry _ fun _ _ _ _ => rfl
      rw [if_pos hst, List.filter_cons_of_pos (by simpa using hst), List.map_cons, List.map_cons,
        State.freeSessions_cons]
      exact (hfirst.carry (State.freeSessions _) fun _ _ _ _ => rfl).trans (ih (s.sendResult x))
    · rw [if_neg hst, List.filter_cons_of_neg (by simpa using hst)]
      exact ih s

/-- STATION GO OPERATE: the results of the station that wait go after its STATION MODE frame (R73, R165). -/
theorem stationGoOperate_delivers (tag : Byte) (hreset : s.resetAsserted = false)
    (hstate : (s.stations[st]).state = .standby ∨ (s.stations[st]).state = .paused)
    {waiting : List Session}
    (hwaiting : (s.awaiting.filterMap s.session?).filter (fun y => y.station == st) = waiting) :
    ∃ t, exec (.stationGoOperate tag (stationNo st)) s = .next t ∧
      Sends (.stationMode (stationNo st) .operating (s.stations[st]).kind ::
          (waiting.map fun y => .sessionResult (stationNo st) y.result) ++ replyFrames tag 24 .ok []) []
        ((s.setStation st ((s.stations[st]).enter .operating)).freeSessions
          (waiting.map Session.number)) t := by
  subst hwaiting
  refine ⟨_, exec_stationGoOperate tag hreset hstate, ?_⟩
  have hmode := (State.enterMode_sends st .operating s).carry (State.freeSessions
    (((s.awaiting.filterMap s.session?).filter fun y => y.station == st).map Session.number))
    fun _ _ _ _ => rfl
  have hresults := State.sendResults_sends st (s.awaiting.filterMap s.session?) (s.enterMode st .operating)
  exact (hmode.trans hresults).trans (State.reply_sends tag 24 .ok [] _)

/-- An attached station that is sent to OFF leaves service, and then its STATION MODE OFF is placed (R163,
R165). -/
theorem stationGoOff_vacates (tag : Byte) (hreset : s.resetAsserted = false)
    (hattached : (s.stations[st]).state.attached = true) :
    ∃ pre u t, exec (.stationGoOff tag (stationNo st)) s = .next t ∧
      u = (s.setStation st { (s.stations[st]).enter .off with silenceExpiry := none }).leaveService st ∧
      Vacates st { (s.stations[st]).enter .off with silenceExpiry := none } pre s u ∧
      Sends (.stationMode (stationNo st) .off (s.stations[st]).kind :: replyFrames tag 24 .ok []) [] u t ∧
      SessionOnly u t := by
  have hoff : (s.stations[st]).state ≠ .off := fun h => by
    rw [h] at hattached
    cases hattached
  obtain ⟨pre, hvacates⟩ := State.leaveService_vacates s (st := st)
    (y := { (s.stations[st]).enter .off with silenceExpiry := none }) nofun
  have hexec := exec_stationGoOff (st := st) (s := s) tag hreset
  rw [if_neg hoff, State.turnOff_attached hattached] at hexec
  have hmode : SessionOnly _ (State.place (.stationMode (stationNo st) .off (s.stations[st]).kind)
    ((s.setStation st { (s.stations[st]).enter .off with silenceExpiry := none }).leaveService st)) := rfl
  exact ⟨pre, _, _, hexec, rfl, hvacates,
    (State.place_sends_front rfl _).trans (State.reply_sends tag 24 .ok [] _),
    hmode.trans (SessionOnly.placeAll (replyFrames_front tag 24 .ok []) _)⟩

/-- Without records and without a session, leaving service changes nothing. -/
theorem State.leaveService_nothing (hreferrals : s.referrals = []) (hnone : s.current? st = none) :
    s.leaveService st = s := by
  have hremoved : s.removeStation st = s := by
    unfold State.removeStation State.removeWaiting State.waitingItems
    rw [hreferrals]
    simp only [List.flatMap_nil, List.filter_nil, List.foldl_nil, hreferrals, List.map_nil,
      State.placeAll_nil]
    rw [← hreferrals]
  unfold State.leaveService
  rw [hremoved]
  dsimp only
  rw [hnone]

end

/-- Settles O46: OPERATE is `stationGoOperate_delivers`, OFF from an attached state `stationGoOff_vacates`; the
others place their STATION MODE frame and the REPLY. -/
theorem stationGoMovesTheStation : Obligations.StationGoMovesTheStation := by
  unfold Obligations.StationGoMovesTheStation
  intro tag st s hreset
  dsimp only
  refine ⟨fun hstate => ?_, fun hstate hnone => ?_, fun hstate y hone hy hst => ?_, fun hstate => ?_,
    fun hstate => ?_, fun hstate => ?_, fun hstate => ?_, fun hstate => ?_,
    fun hattached hreferrals hnone => ?_, fun hattached hs hl => ?_⟩
  · exact ⟨_, exec_stationGoListen tag hreset hstate, State.reply_sends ..⟩
  · have hoperates := stationGoOperate_delivers tag hreset hstate (waiting := []) (by rw [hnone]; rfl)
    rw [List.map_nil, List.map_nil, State.freeSessions_nil] at hoperates
    exact hoperates
  · have hwaiting : (s.awaiting.filterMap s.session?).filter (fun y => y.station == st) = [y] := by
      simp [hone, hy, hst]
    have hoperates := stationGoOperate_delivers tag hreset hstate hwaiting
    rw [List.map_singleton, List.map_singleton, State.freeSessions_cons, State.freeSessions_nil]
      at hoperates
    exact hoperates
  · exact stationGoOperate_delivers tag hreset hstate rfl
  · have hexec := exec_stationGoOff (st := st) (s := s) tag hreset
    rw [if_pos hstate] at hexec
    exact ⟨_, hexec, State.reply_sends ..⟩
  · exact ⟨_, exec_stationGoPause tag hreset hstate,
      (State.enterMode_sends st .paused s).trans (State.reply_sends tag 24 .ok [] _)⟩
  · exact stationGoOff_unattached tag hreset (.inl ⟨hstate, rfl⟩)
  · exact stationGoOff_unattached tag hreset (.inr ⟨hstate, rfl⟩)
  · obtain ⟨-, u, t, hexec, hu, -, hsends, -⟩ := stationGoOff_vacates tag hreset hattached
    rw [State.leaveService_nothing (s := s.setStation st _) hreferrals hnone] at hu
    subst hu
    exact ⟨t, hexec, hsends⟩
  · obtain ⟨pre, u, t, hexec, -, hvacates, hsends, honly⟩ := stationGoOff_vacates tag hreset hattached
    exact ⟨t, pre, hexec, (hvacates.left hs hl).sends hsends, hvacates.front.trans hsends.front,
      hvacates.only.trans honly.leaveOnly⟩

end Sys2Proof.Machine
end

section
/-! SUPPORT. What the Session Table and the Voucher Unit share, said once per operation: the delivery of a
decided session (R72), the three ways into a phase of a transfer (R80, R83, R84, R89) and the end of a
transfer, which starts the next head (R81, R86, R91). -/

namespace Sys2Proof.Machine

-- One theorem after another: many that wait for the kernel at once take threads and memory.
set_option Elab.async false

/-! ## Deliveries (R72) -/

/-- A record that is freed leaves no trace of a change made to it before. -/
theorem State.onSession_freeSession (s : State) {n : Nat} {f : Session → Session}
    (hnumber : ∀ x, (f x).number = x.number) : (s.onSession n f).freeSession n = s.freeSession n := by
  have hsame : (fun x : Session => x.number != n) ∘ (fun x => if x.number = n then f x else x) =
      fun x => x.number != n := by
    funext x
    by_cases hx : x.number = n <;> simp [hx, hnumber]
  have hkept : ∀ x ∈ s.sessions.filter (·.number != n), (if x.number = n then f x else x) = x :=
    fun x hx => if_neg (by simpa using (List.mem_filter.1 hx).2)
  unfold State.freeSession State.onSession
  dsimp only
  rw [List.filter_map, hsame, List.map_congr_left hkept, List.map_id']

section
variable {s : State} {n : Nat} {x : Session}

theorem delivered_operating (h : (s.stations[x.station]).state = .operating) :
    delivered x s = ([.sessionResult (stationNo x.station) x.result], s.freeSession x.number) :=
  if_pos h

theorem delivered_waiting (h : (s.stations[x.station]).state ≠ .operating) :
    delivered x s = ([], { s.onSession x.number (fun _ => { x with state := .awaitPrint }) with
      awaiting := s.awaiting ++ [x.number] }) :=
  if_neg h

theorem delivered_voucherQueue (x : Session) (s : State) :
    (delivered x s).2.voucherQueue = s.voucherQueue := by
  unfold delivered
  split <;> rfl

/-- A session whose record has just been decided by `f` is delivered as the record that `f` makes. -/
theorem State.deliver_sends (hs : SessionsOk s) (hx : s.session? n = some x) {f : Session → Session}
    (hnumber : ∀ x, (f x).number = x.number) :
    Sends (delivered (f x) s).1 [] (delivered (f x) s).2 ((s.onSession n f).deliver n) := by
  have hfound := State.onSession_found (f := f) hnumber hx
  have hdecided : (f x).number = n := (hnumber x).trans (State.session?_number hx)
  have hrecord : s.onSession n (fun y => { f y with state := .awaitPrint }) =
      s.onSession n fun _ => { f x with state := .awaitPrint } := by
    obtain rfl : x.number = n := State.session?_number hx
    exact State.onSession_congr hs hx rfl
  subst hdecided
  by_cases hstation : (s.stations[(f x).station]).state = .operating
  · have hdeliver : (s.onSession (f x).number f).deliver (f x).number =
        (s.onSession (f x).number f).sendResult (f x) := by
      unfold State.deliver
      rw [hfound]
      exact if_pos hstation
    rw [delivered_operating hstation, hdeliver, ← State.onSession_freeSession s hnumber]
    exact (State.place_sends_front rfl _).carry (State.freeSession (f x).number) fun _ _ _ _ => rfl
  · rw [delivered_waiting hstation, State.deliver_waits hfound hstation,
      State.onSession_onSession s (fun y => { y with state := .awaitPrint }) hnumber, hrecord]
    exact Sends.refl _

/-! ## Phases of a transfer -/

theorem State.enterRequest_sends (tag : Nat) (hx : s.session? n = some x) :
    Sends [.voucherRequest tag (stationNo x.station) n x.credit x.lines.length] []
      { s with transfer := .running .request n tag none (s.serial + 1) } (s.enterRequest n tag) := by
  obtain rfl : x.number = n := State.session?_number hx
  unfold State.enterRequest
  rw [hx]
  exact State.place_sends_front rfl _

/-- REQUEST begins under a new tag (R80, R83). -/
theorem State.beginRequest_sends (hx : s.session? n = some x) :
    Sends [.voucherRequest (nextTag s) (stationNo x.station) n x.credit x.lines.length] []
      (s.toIssue n (nextTag s) (s.serial + 1)) (s.beginRequest n) :=
  State.enterRequest_sends (nextTag s) (State.onSession_found (s := { s with tagCounter := nextTag s })
    (f := fun y => { y with state := .issuing, issueTag := some (nextTag s) }) (fun _ => rfl) hx)

theorem State.beginRequest_tagCounter (s : State) (n : Nat) :
    (s.beginRequest n).tagCounter = nextTag s := by
  unfold State.beginRequest State.enterRequest
  dsimp only
  split <;> rfl

theorem State.enterStatus_sends (n tag : Nat) (s : State) :
    Sends [.statusQuery tag n] [] { s with transfer := .running .status n tag none (s.serial + 1) }
      (s.enterStatus n tag) :=
  State.place_sends_front rfl _

theorem State.enterData_sends (tag : Nat) (hx : s.session? n = some x) :
    Sends (lineFrames n tag x.lines) [] { s with transfer := (s.enterData n tag).transfer }
      (s.enterData n tag) := by
  have hlines := (State.placeAll_sends_front (lineFrames_front n tag x.lines) s).carry
    (fun t => { t with transfer := (s.enterData n tag).transfer }) fun _ _ _ _ => rfl
  unfold State.enterData at hlines ⊢
  rw [hx] at hlines ⊢
  exact hlines

/-- With the VOUCHER LINES frames produced the transfer is in DATA or, with all of them placed, in STATUS
(R84). -/
theorem State.enterData_transfer (tag : Nat) (hx : s.session? n = some x) :
    ∃ l, (s.enterData n tag).transfer = .running .data n tag none l ∨
      (s.enterData n tag).transfer = .running .status n tag none l := by
  unfold State.enterData
  rw [hx]
  dsimp only
  split
  · exact ⟨_, .inl rfl⟩
  · exact ⟨_, .inr rfl⟩

/-! ## Ends of transfers (R81, R86, R91) -/

/-- The transfer has ended with the frames `pre`, and the next head is looked for. -/
theorem NextHead.of_sends {rest : List Nat} {pre : List Frame} {u t : State} (h : Sends pre [] u t) :
    NextHead rest pre [] u (State.startTransfer { t with voucherQueue := rest, transfer := .idle }) := by
  have hended := h.carry (fun v => { v with voucherQueue := rest, transfer := .idle })
    fun _ _ _ _ => rfl
  refine ⟨fun hnil => ?_, fun m ms y hcons hy => ?_⟩
  · subst hnil
    rw [List.append_nil]
    exact hended
  · have htag : nextTag t = nextTag u := h.field nextTag fun _ _ _ _ => rfl
    have hfound : t.session? m = some y :=
      (State.session?_of_same (h.field State.sessions fun _ _ _ _ => rfl) m).trans hy
    have hstart := State.startTransfer_sends
      (s := { t with voucherQueue := rest, transfer := .idle }) rfl hcons hfound
    rw [List.append_nil, ← htag]
    exact ⟨t.serial + 1, (hended.carry (State.toIssue m (nextTag t) (t.serial + 1))
      fun _ _ _ _ => rfl).trans hstart⟩

/-- Frames that follow the start of the next head. -/
theorem NextHead.sends {rest : List Nat} {pre post fs : List Frame} {u t v : State}
    (h : NextHead rest pre post u t) (k : Sends fs [] t v) : NextHead rest pre (post ++ fs) u v := by
  obtain ⟨hlast, hnext⟩ := h
  refine ⟨fun hnil => ?_, fun m ms y hcons hy => ?_⟩
  · rw [← List.append_assoc]
    exact (hlast hnil).trans k
  · obtain ⟨latest, hhead⟩ := hnext m ms y hcons hy
    refine ⟨latest, ?_⟩
    rw [← List.append_assoc]
    exact hhead.trans k

/-- The session of the transfer is decided by `f`, counted and delivered, and the next head starts. -/
theorem State.endTransfer_nextHead {rest : List Nat} (hs : SessionsOk s) (hx : s.session? n = some x)
    (hqueue : s.voucherQueue = n :: rest) {f : Session → Session}
    (hnumber : ∀ x, (f x).number = x.number) (count : Totals → Totals) :
    NextHead rest (delivered (f x) (s.onTotals count)).1 [] (delivered (f x) (s.onTotals count)).2
      (s.endTransfer n f count) := by
  have hdelivered := State.deliver_sends (s := s.onTotals count) hs hx hnumber
  have htail : (((s.onSession n f).onTotals count).deliver n).voucherQueue.tail = rest := by
    have hsame := hdelivered.field State.voucherQueue fun _ _ _ _ => rfl
    rw [delivered_voucherQueue, State.onTotals_voucherQueue, hqueue] at hsame
    exact congrArg List.tail hsame
  unfold State.endTransfer
  dsimp only
  rw [htail]
  exact NextHead.of_sends hdelivered

theorem State.amount_eq (hx : s.session? n = some x) : s.amount n = x.credit := by
  unfold State.amount
  rw [hx]
  rfl

end

end Sys2Proof.Machine
end

section
/-! PROOFS. The ends of sessions: SESSION CLOSE and IDLE EXPIRY (R65, R66, R68, R69), DISCARD SESSION (R75), a
VOUCHER STATUS that passes (R86), and VOUCHER CONTROL on a stopped transfer (R88 to R91). -/

namespace Sys2Proof.Machine

-- One theorem after another: many that wait for the kernel at once take threads and memory.
set_option Elab.async false

/-! ## SESSION CLOSE and IDLE EXPIRY -/

theorem oneByte_disposition (d : Disposition) :
    (oneByte [BitVec.ofNat 8 d.code]).bind Disposition.ofCode = some d := by
  cases d <;> rfl

section
variable {s : State} {n : Nat} {x : Session} {d : Disposition}

/-- SESSION CLOSE closes the OPEN session of a station in OPERATING or PAUSED (R66). -/
theorem exec_sessionClose_closes {st : Fin 8} (hreset : s.resetAsserted = false)
    (hstation : (s.stations[st]).state = .operating ∨ (s.stations[st]).state = .paused)
    (hcurrent : s.current? st = some x) (hopened : x.state = .opened) :
    exec (.sessionClose (stationNo st) [BitVec.ofNat 8 d.code]) s =
      .next (s.closeSession x.number d) := by
  refine Eq.trans (b := execSessionClose (stationNo st) [BitVec.ofNat 8 d.code] s) rfl ?_
  unfold execSessionClose
  rw [live_released hreset]
  simp only [stationIx_stationNo, oneByte_disposition, hcurrent]
  rcases hstation with hstation | hstation <;> simp only [hstation, if_pos hopened]

/-- The idle timer of an OPEN session has run out (R65). -/
theorem exec_idleExpiry_closes {e : Nat} (hreset : s.resetAsserted = false)
    (hx : s.session? n = some x) (hexpiry : x.idleExpiry = some e) (he : e ≤ s.now)
    (hopened : x.state = .opened) :
    exec (.idleExpiry n) s = .next (s.closeSession n s.params.idleDisposition) := by
  refine Eq.trans (b := execIdleExpiry n s) rfl ?_
  unfold execIdleExpiry
  rw [live_released hreset]
  simp only [hx, hexpiry]
  rw [if_pos ⟨hopened, he⟩]

theorem State.closing_found (d : Disposition) (hx : s.session? n = some x) :
    (s.onSession n (Session.closing d)).session? n = some (x.closing d) :=
  State.onSession_found (fun _ => rfl) hx

/-- With items held a closed session waits in CLOSING (R68). -/
theorem State.closeSession_of_held (hx : s.session? n = some x) (hheld : x.held ≠ 0) :
    s.closeSession n d = s.onSession n (Session.closing d) := by
  refine Eq.trans (b := (s.onSession n (Session.closing d)).settle n) rfl ?_
  unfold State.settle
  rw [State.closing_found d hx]
  exact if_neg fun hready => hheld hready.2

/-- With nothing held the close completes at once (R69). -/
theorem State.closeSession_of_free (hx : s.session? n = some x) (hheld : x.held = 0) :
    s.closeSession n d = (s.onSession n (Session.closing d)).completeClose n :=
  State.settle_of_ready (State.closing_found d hx) rfl hheld

/-- The outcome of a session that ends without a voucher, by its running credit (R69). -/
def closeOutcome (credit : Nat) : SessionOutcome := if credit = 0 then .nothing else .donated

/-- The corner totals count the donation of a session that ends with credit (R69). -/
def State.donated (credit : Nat) (s : State) : State :=
  if credit = 0 then s else s.onTotals (Totals.donate credit)

@[simp] theorem State.donated_sessions (credit : Nat) (s : State) :
    (s.donated credit).sessions = s.sessions := by unfold State.donated; split <;> rfl

@[simp] theorem State.donated_stations (credit : Nat) (s : State) :
    (s.donated credit).stations = s.stations := by unfold State.donated; split <;> rfl

@[simp] theorem State.donated_awaiting (credit : Nat) (s : State) :
    (s.donated credit).awaiting = s.awaiting := by unfold State.donated; split <;> rfl

/-- A closed session that has ended without a voucher (R69). -/
def Session.ended (d : Disposition) (credit : Nat) (x : Session) : Session :=
  { x.closing d with outcome := some (closeOutcome credit) }

/-- Without credit, or donated, the session is decided, counted and delivered (R69). -/
theorem State.closeSession_ends (hx : s.session? n = some x) (hheld : x.held = 0)
    (hdecided : x.credit = 0 ∨ d = .donate) : s.closeSession n d =
      ((s.donated x.credit).onSession n (Session.ended d x.credit)).deliver n := by
  have hboth (t : State) : (t.onSession n (Session.closing d)).onSession n
      (fun y => { y with outcome := some (closeOutcome x.credit) }) =
        t.onSession n (Session.ended d x.credit) :=
    State.onSession_onSession t _ fun _ => rfl
  rw [State.closeSession_of_free hx hheld, ← hboth]
  unfold State.completeClose State.donated closeOutcome
  rw [State.closing_found d hx]
  by_cases hcredit : x.credit = 0
  · rw [if_pos hcredit, if_pos hcredit]
    exact if_pos hcredit
  · obtain rfl := hdecided.resolve_left hcredit
    rw [if_neg hcredit, if_neg hcredit]
    exact if_neg hcredit

/-- Such a session is delivered to its station in OPERATING (R72). -/
theorem State.closeSession_delivers (hs : SessionsOk s) (hx : s.session? n = some x)
    (hheld : x.held = 0) (hdecided : x.credit = 0 ∨ d = .donate)
    (hstation : (s.stations[x.station]).state = .operating) :
    Sends [.sessionResult (stationNo x.station) (x.ended d x.credit).result] []
      ((s.donated x.credit).freeSession n) (s.closeSession n d) := by
  have hok : SessionsOk (s.donated x.credit) := by
    unfold SessionsOk
    rw [State.donated_sessions]
    exact hs
  have hsends := State.deliver_sends hok
    ((State.session?_of_same (State.donated_sessions x.credit s) n).trans hx)
    (f := Session.ended d x.credit) fun _ => rfl
  have hoperating :
      ((s.donated x.credit).stations[(x.ended d x.credit).station]).state = .operating := by
    rw [State.donated_stations]
    exact hstation
  rw [delivered_operating hoperating] at hsends
  obtain rfl : x.number = n := State.session?_number hx
  rw [State.closeSession_ends hx hheld hdecided]
  exact hsends

/-- At any other station state it waits in AWAIT_PRINT (R72). -/
theorem State.closeSession_waits (hx : s.session? n = some x) (hheld : x.held = 0)
    (hdecided : x.credit = 0 ∨ d = .donate)
    (hstation : (s.stations[x.station]).state ≠ .operating) : s.closeSession n d =
      { (s.donated x.credit).onSession n
          (fun y => { y.ended d x.credit with state := .awaitPrint }) with
        awaiting := s.awaiting ++ [n] } := by
  have hfound := State.onSession_found (f := Session.ended d x.credit) (fun _ => rfl)
    ((State.session?_of_same (State.donated_sessions x.credit s) n).trans hx)
  have hother :
      ((s.donated x.credit).stations[(x.ended d x.credit).station]).state ≠ .operating := by
    rw [State.donated_stations]
    exact hstation
  rw [State.closeSession_ends hx hheld hdecided, State.deliver_waits hfound hother,
    State.onSession_onSession (s.donated x.credit) (f := Session.ended d x.credit)
      (fun y => { y with state := .awaitPrint }) fun _ => rfl,
    State.onSession_awaiting, State.donated_awaiting]

/-- With credit and disposition VOUCHER the session joins the voucher queue, which an idle Voucher Unit
looks at (R69, R81). -/
theorem State.closeSession_queues (hx : s.session? n = some x) (hheld : x.held = 0)
    (hcredit : x.credit ≠ 0) :
    s.closeSession n .voucher = ((s.onSession n (Session.closing .voucher)).toQueue n).startTransfer := by
  rw [State.closeSession_of_free hx hheld]
  exact State.completeClose_queues (State.closing_found .voucher hx) hcredit nofun

/-- The close and the place in the voucher queue are one change of the session's record. -/
theorem State.toQueue_closing (n : Nat) (d : Disposition) (s : State) :
    (s.onSession n (Session.closing d)).toQueue n =
      { s.onSession n (fun y => { y.closing d with state := .queued }) with
        voucherQueue := s.voucherQueue ++ [n] } := by
  unfold State.toQueue
  rw [State.onSession_onSession s (f := Session.closing d) (fun y => { y with state := .queued })
    fun _ => rfl]
  rfl

/-- With nothing queued before it, an idle Voucher Unit begins REQUEST for it at once (R80, R81, R83). -/
theorem State.closeSession_issues (hx : s.session? n = some x) (hheld : x.held = 0)
    (hcredit : x.credit ≠ 0) (hidle : s.transfer = .idle) (hqueue : s.voucherQueue = []) :
    Sends [.voucherRequest (nextTag s) (stationNo x.station) n x.credit x.lines.length] []
      { s.onSession n (fun y => { y.closing .voucher with
          state := .issuing, issueTag := some (nextTag s) }) with
        voucherQueue := [n], tagCounter := nextTag s,
        transfer := .running .request n (nextTag s) none (s.serial + 1) }
      (s.closeSession n .voucher) := by
  have hfound := State.onSession_found (f := fun y => { y.closing .voucher with state := .queued })
    (fun _ => rfl) hx
  have hboth := State.onSession_onSession s (n := n)
    (f := fun y => { y.closing .voucher with state := .queued })
    (fun y => { y with state := .issuing, issueTag := some (nextTag s) }) fun _ => rfl
  have hstart := State.startTransfer_sends
    (s := (s.onSession n (Session.closing .voucher)).toQueue n) (n := n) (rest := []) hidle
    (by rw [State.toQueue_closing, hqueue]; rfl) (by rw [State.toQueue_closing]; exact hfound)
  rw [State.closeSession_queues hx hheld hcredit]
  rw [State.toQueue_closing, hqueue] at hstart ⊢
  unfold State.toIssue at hstart
  rw [← hboth]
  exact hstart

end

/-- Settles O27: either cause closes the session (`exec_sessionClose_closes`, `exec_idleExpiry_closes`), and
the close goes on by the branch of R68 and R69 that its held items, credit and disposition choose. -/
theorem closingEndsTheSession : Obligations.ClosingEndsTheSession := by
  unfold Obligations.ClosingEndsTheSession
  intro c st d x s hreset hs hopened hst hcause
  obtain ⟨hexec, hx⟩ : exec c s = .next (s.closeSession x.number d) ∧
      s.session? x.number = some x := by
    rcases hcause with ⟨rfl, hstation, hcurrent⟩ | ⟨e, rfl, hx, hexpiry, he, rfl⟩
    · exact ⟨exec_sessionClose_closes hreset hstation hcurrent hopened,
        State.session?_of_current? hs hcurrent⟩
    · exact ⟨exec_idleExpiry_closes hreset hx hexpiry he hopened, hx⟩
  subst hst
  rw [hexec]
  refine ⟨fun hheld => ?_, fun hheld hcredit hstation => ?_, fun hheld hcredit hd hstation => ?_,
    fun hheld hdecided hstation => ?_, fun hheld hcredit hd hidle hqueue => ?_,
    fun hheld hcredit hd hrunning => ?_⟩
  · rw [State.closeSession_of_held hx hheld]
    rfl
  · have hsends := State.closeSession_delivers (d := d) hs hx hheld (.inl hcredit) hstation
    unfold State.donated Session.result Session.ended Session.closing closeOutcome at hsends
    simp only [hcredit, if_true] at hsends
    exact ⟨_, rfl, hsends⟩
  · subst hd
    have hsends := State.closeSession_delivers (d := .donate) hs hx hheld (.inr rfl) hstation
    unfold State.donated Session.result Session.ended closeOutcome at hsends
    simp only [if_neg hcredit] at hsends
    exact ⟨_, rfl, hsends⟩
  · rw [State.closeSession_waits hx hheld hdecided hstation]
    rfl
  · subst hd
    have hissues := State.closeSession_issues hx hheld hcredit hidle hqueue
    exact ⟨_, s.serial + 1, rfl, hissues⟩
  · subst hd
    rw [State.closeSession_queues hx hheld hcredit,
      State.startTransfer_of_running
        (s := (s.onSession x.number (Session.closing .voucher)).toQueue x.number) hrunning,
      State.toQueue_closing]
    rfl

/-! ## DISCARD SESSION -/

section
variable {s : State} {tag : Byte} {n : Nat}

/-- The tests of R75, in their order. -/
theorem execDiscardSession_refused {r : ReplyCode} (hreset : s.resetAsserted = false)
    (h : n = 0 ∧ r = .badValue ∨ n ≠ 0 ∧ s.session? n = none ∧ r = .notFound ∨
      n ≠ 0 ∧ (∃ x, s.session? n = some x ∧ x.state ≠ .awaitPrint) ∧ r = .badState) :
    Refused s tag 13 r (execDiscardSession tag n s) := by
  refine live_refused hreset ?_
  rcases h with ⟨hn, rfl⟩ | ⟨hn, hnone, rfl⟩ | ⟨hn, ⟨x, hx, hstate⟩, rfl⟩
  · rw [if_pos hn]
  · rw [if_neg hn]
    simp only [hnone]
  · rw [if_neg hn]
    simp only [hx, if_neg hstate]

/-- In AWAIT_PRINT the record is freed, and only the REPLY goes out (R75). -/
theorem execDiscardSession_frees {x : Session} (hreset : s.resetAsserted = false) (hn : n ≠ 0)
    (hx : s.session? n = some x) (hstate : x.state = .awaitPrint) :
    ∃ t, execDiscardSession tag n s = .next t ∧
      Sends (replyFrames tag 13 .ok (be 1 (stationNo x.station) ++
        optBe 1 (x.outcome.map SessionOutcome.code) ++ be 3 x.credit ++ optBe 5 x.voucherNumber)) []
        (s.freeSession n) t := by
  refine live_replies hreset ?_
  rw [if_neg hn]
  simp only [hx, if_pos hstate]

end

/-- Settles O28: the tests come in their order, and the last branch frees the record and answers. -/
theorem discardFreesAnAwaitingSession : Obligations.DiscardFreesAnAwaitingSession := by
  unfold Obligations.DiscardFreesAnAwaitingSession
  refine ⟨fun tag s hreset => ?_, fun tag n s hreset hn hnone => ?_,
    fun tag n x s hreset hn hx => ⟨fun hstate => ?_, fun hstate => ?_⟩⟩
  · exact execDiscardSession_refused hreset (.inl ⟨rfl, rfl⟩)
  · exact execDiscardSession_refused hreset (.inr (.inl ⟨hn, hnone, rfl⟩))
  · exact execDiscardSession_refused hreset (.inr (.inr ⟨hn, ⟨x, hx, hstate⟩, rfl⟩))
  · exact execDiscardSession_frees hreset hn hx hstate

/-! ## VOUCHER STATUS -/

theorem exec_voucherStatus_passes {payload : List Byte} {n tag l v : Nat} {e : Option Nat} {s : State}
    (hreset : s.resetAsserted = false) (htransfer : s.transfer = .running .status n tag e l)
    (hcheck : checkStatus tag payload = .ok v) :
    exec (.voucherStatus 14 payload) s = .next (s.endTransfer n
      (fun x => { x with voucherNumber := some v, outcome := some .issued })
      (Totals.issue (s.amount n))) := by
  refine Eq.trans (b := execVoucherStatus 14 payload s) rfl ?_
  unfold execVoucherStatus
  rw [live_released hreset, if_pos (show 14 = tillBridge from rfl)]
  simp only [htransfer, hcheck]

/-- Settles O30: the session is issued and counted by the amount that is its running credit, and the rest is
`State.endTransfer_nextHead`. -/
theorem passingStatusIssuesTheVoucher : Obligations.PassingStatusIssuesTheVoucher := by
  unfold Obligations.PassingStatusIssuesTheVoucher
  intro payload n tag l v e rest x s hreset hs htransfer hqueue hx hcheck
  have hexec := exec_voucherStatus_passes hreset htransfer hcheck
  rw [State.amount_eq hx] at hexec
  exact ⟨_, hexec, State.endTransfer_nextHead hs hx hqueue
    (f := fun y => { y with voucherNumber := some v, outcome := some .issued }) (fun _ => rfl) _⟩

/-! ## VOUCHER CONTROL -/

section
variable {cmd : Byte} {ph : Phase} {cause : StopCause} {n tag : Nat} {x : Session} {s : State}

/-- RESUME, RESTART and CANCEL of the session that the stopped transfer holds pass the tests of R88. -/
theorem State.onStopped_acts (htransfer : s.transfer = .stopped ph cause n tag) (hn : n ≠ 0)
    (act : Phase → Nat → State → State) : s.onStopped cmd n act = act ph tag s := by
  unfold State.onStopped
  rw [if_neg hn, htransfer]
  exact if_pos rfl

theorem exec_voucherControlResume (cmd : Byte) (hreset : s.resetAsserted = false)
    (htransfer : s.transfer = .stopped ph cause n tag) (hn : n ≠ 0) :
    exec (.voucherControlResume cmd n) s =
      .next ((s.resumePhase ph n tag).reply cmd 14 .ok []) :=
  (live_released hreset).trans (congrArg _ (State.onStopped_acts htransfer hn _))

theorem exec_voucherControlRestart (cmd : Byte) (hreset : s.resetAsserted = false)
    (htransfer : s.transfer = .stopped ph cause n tag) (hn : n ≠ 0) :
    exec (.voucherControlRestart cmd n) s =
      .next ((s.beginRequest n).reply cmd 14 .ok (be 2 (nextTag s))) := by
  rw [← State.beginRequest_tagCounter s n]
  exact (live_released hreset).trans (congrArg _ (State.onStopped_acts htransfer hn _))

theorem exec_voucherControlCancel (cmd : Byte) (hreset : s.resetAsserted = false)
    (htransfer : s.transfer = .stopped ph cause n tag) (hn : n ≠ 0) (hx : s.session? n = some x) :
    exec (.voucherControlCancel cmd n) s =
      .next ((s.endTransfer n (fun y => { y with outcome := some .cancelled })
        (Totals.cancel x.credit)).reply cmd 14 .ok []) := by
  rw [← State.amount_eq hx]
  exact (live_released hreset).trans (congrArg _ (State.onStopped_acts htransfer hn _))

end

/-- Settles O33: RESUME enters the stopped phase again, RESTART begins REQUEST under a new tag, and CANCEL
ends the transfer (`State.endTransfer_nextHead`); the REPLY follows. -/
theorem stoppedTransferIsControlled : Obligations.StoppedTransferIsControlled := by
  unfold Obligations.StoppedTransferIsControlled
  intro cmd ph cause n tag x s hreset hs htransfer hn hx
  have hresume := exec_voucherControlResume cmd hreset htransfer hn
  have hreply (t : State) := State.reply_sends cmd 14 .ok [] t
  refine ⟨fun hph => ?_, fun hph => ?_, fun hph => ?_, ?_, fun rest hqueue => ?_⟩
  · subst hph
    exact ⟨_, _, hresume, (State.enterStatus_sends n tag s).trans (hreply _)⟩
  · subst hph
    exact ⟨_, _, hresume, (State.enterRequest_sends tag hx).trans (hreply _)⟩
  · subst hph
    obtain ⟨l, hphase⟩ := State.enterData_transfer tag hx
    refine ⟨_, l, hresume, ?_, ?_⟩
    · rw [State.reply_transfer]
      exact hphase
    · rw [State.reply_transfer]
      exact (State.enterData_sends tag hx).trans (hreply _)
  · exact ⟨_, _, exec_voucherControlRestart cmd hreset htransfer hn,
      (State.beginRequest_sends hx).trans (State.reply_sends cmd 14 .ok _ _)⟩
  · exact ⟨_, exec_voucherControlCancel cmd hreset htransfer hn hx,
      (State.endTransfer_nextHead hs hx hqueue (f := fun y => { y with outcome := some .cancelled })
        (fun _ => rfl) _).sends (hreply _)⟩

end Sys2Proof.Machine
end

section
/-! SUPPORT. The head of the voucher queue (R78, R79): the transfer record holds the session at the head, and
each operation leaves queue and transfer as they are or keeps that (`KeepsHead`). -/

namespace Sys2Proof.Machine

-- One theorem after another: many that wait for the kernel at once take threads and memory.
set_option Elab.async false

/-- The voucher queue and the session of the transfer record: the fields that the law speaks of. -/
def State.voucherHead (s : State) : List Nat × Option Nat := (s.voucherQueue, s.transfer.session?)

theorem voucherOk_iff {s : State} :
    VoucherOk s ↔ ∀ n, s.transfer.session? = some n → s.voucherQueue.head? = some n := by
  unfold VoucherOk
  cases s.transfer with
  | idle => simp [Transfer.session?]
  | running ph n tag e l => simp [Transfer.session?, eq_comm]
  | stopped ph cause n tag => simp [Transfer.session?, eq_comm]

/-- An event keeps the transfer on the head of the voucher queue. -/
def KeepsHead (s t : State) : Prop := VoucherOk s → VoucherOk t

theorem KeepsHead.refl (s : State) : KeepsHead s s := id

theorem KeepsHead.trans {s t u : State} (h : KeepsHead s t) (k : KeepsHead t u) : KeepsHead s u :=
  fun hs => k (h hs)

/-- The queue and the session of the transfer are the same. -/
theorem KeepsHead.elsewhere {s t : State} (h : t.voucherHead = s.voucherHead := by rfl) :
    KeepsHead s t := by
  simp only [State.voucherHead, Prod.mk.injEq] at h
  obtain ⟨hqueue, hsession⟩ := h
  unfold KeepsHead
  rw [voucherOk_iff, voucherOk_iff, hqueue, hsession]
  exact id

theorem KeepsHead.of_hall {s t : State} (h : t.hall = s.hall) : KeepsHead s t := by
  simp only [State.hall, Prod.mk.injEq] at h
  obtain ⟨-, -, -, -, hqueue, hsession, -⟩ := h
  exact .elsewhere (by rw [State.voucherHead, hqueue, hsession]; rfl)

theorem LaneOnly.keepsHead {s t : State} (h : LaneOnly s t) : KeepsHead s t := .of_hall h.hall

theorem AcceptOnly.keepsHead {s t : State} (h : AcceptOnly s t) : KeepsHead s t :=
  .elsewhere (by rw [h]; rfl)

theorem State.reply_keepsHead (tag : Byte) (code : Nat) (r : ReplyCode) (results : List Byte)
    (s : State) : KeepsHead s (s.reply tag code r results) := .of_hall (State.placeAll_hall _ s)

theorem State.refuse_keepsHead (tag : Byte) (code : Nat) (r : ReplyCode) (s : State) :
    KeepsHead s (s.refuse tag code r) := State.reply_keepsHead tag code r [] s

theorem KeepsHead.reply {s t : State} (h : KeepsHead s t) (tag : Byte) (code : Nat) (r : ReplyCode)
    (results : List Byte) : KeepsHead s (t.reply tag code r results) :=
  h.trans (State.reply_keepsHead tag code r results t)

section
variable (s : State)

/-! ## Starts and ends of transfers (R80, R81, R86) -/

/-- REQUEST begins for the session at the head of the queue, or for none. -/
theorem State.beginRequest_keepsHead {n : Nat}
    (hhead : VoucherOk s → s.voucherQueue.head? = some n) : KeepsHead s (s.beginRequest n) := by
  intro hs
  cases hx : s.session? n with
  | some x =>
    obtain ⟨-, htransfer, -, -, hqueue, -⟩ := State.beginRequest_eq hx
    rw [voucherOk_iff, htransfer, hqueue]
    rintro m ⟨⟩
    exact hhead hs
  | none =>
    have hmissing := (State.onSession_session? { s with tagCounter := nextNumber 65535 s.tagCounter } n
      (fun x => { x with state := .issuing, issueTag := some (nextNumber 65535 s.tagCounter) })
      fun _ => rfl).trans (congrArg (Option.map _) hx)
    unfold State.beginRequest State.enterRequest
    dsimp only
    rw [hmissing]
    exact hs

theorem State.startTransfer_keepsHead : KeepsHead s s.startTransfer := by
  unfold State.startTransfer
  split
  · next hqueue => exact State.beginRequest_keepsHead s fun _ => by rw [hqueue]; rfl
  · exact .refl s

/-- A session joins the queue behind its head. -/
theorem State.toQueue_keepsHead (n : Nat) : KeepsHead s (s.toQueue n) := by
  unfold KeepsHead
  rw [voucherOk_iff, voucherOk_iff]
  intro hs m hm
  refine (List.head?_append ..).trans ?_
  rw [hs m hm]
  rfl

theorem State.deliver_keepsHead (n : Nat) : KeepsHead s (s.deliver n) := by
  unfold State.deliver
  split
  · exact .refl s
  · split <;> exact .elsewhere

/-- After the end of a transfer the record is IDLE, until the next head is taken on. -/
theorem State.endTransfer_keepsHead (n : Nat) (f : Session → Session) (g : Totals → Totals) :
    KeepsHead s (s.endTransfer n f g) := by
  unfold State.endTransfer
  exact fun _ => State.startTransfer_keepsHead _ (.inl rfl)

/-! ## Closes (R68, R69) -/

theorem State.completeClose_keepsHead (n : Nat) : KeepsHead s (s.completeClose n) := by
  unfold State.completeClose
  split
  · exact .refl s
  · split
    · exact .trans (t := s.onSession n _) .elsewhere (State.deliver_keepsHead _ n)
    · split
      · exact .trans (t := State.onTotals _ _) .elsewhere (State.deliver_keepsHead _ n)
      all_goals exact (State.toQueue_keepsHead s n).trans (State.startTransfer_keepsHead _)

theorem State.settle_keepsHead (n : Nat) : KeepsHead s (s.settle n) := by
  unfold State.settle
  split
  · split
    · exact State.completeClose_keepsHead s n
    · exact .refl s
  · exact .refl s

theorem State.closeSession_keepsHead (n : Nat) (d : Disposition) : KeepsHead s (s.closeSession n d) :=
  .trans (t := s.onSession n _) .elsewhere (State.settle_keepsHead _ n)

/-! ## Evaluations -/

theorem State.fromCap_keepsHead (a : Accept) : KeepsHead s (s.fromCap a) := by
  unfold State.fromCap
  split
  · exact .refl s
  · split
    · exact .elsewhere
    · split
      · exact .elsewhere
      · next i _ =>
        exact ((State.reserve_acceptOnly i _ s).trans (State.accept_acceptOnly a _ i _ _)).keepsHead

theorem State.requestMiss_keepsHead (n : Nat) (w : Waiting) : KeepsHead s (s.requestMiss n w) := by
  unfold State.requestMiss
  split
  · split <;> exact .elsewhere
  · split <;> exact .elsewhere

theorem State.requestDecision_keepsHead (n : Nat) (e : Entry) (w : Waiting) :
    KeepsHead s (s.requestDecision n e w) := by
  unfold State.requestDecision
  split <;> exact .elsewhere

theorem State.fromRights_keepsHead (ask : Asking) (n : Nat) (e : Entry) (w : Waiting) :
    KeepsHead s (s.fromRights ask n e w) := by
  unfold State.fromRights
  split
  · exact .elsewhere
  · exact .elsewhere
  · split
    · exact State.requestDecision_keepsHead s n e w
    · exact .elsewhere
  · exact State.fromCap_keepsHead s _

theorem State.fromLookup_keepsHead (ask : Asking) (n : Nat) (w : Waiting) :
    KeepsHead s (s.fromLookup ask n w) := by
  unfold State.fromLookup
  split
  · split
    · exact State.requestMiss_keepsHead s n w
    · exact .elsewhere
  · split
    · exact .elsewhere
    · exact State.fromRights_keepsHead s ask n _ _

theorem State.fromCode_keepsHead (st : Fin 8) (n : Nat) (r : Report) :
    KeepsHead s (s.fromCode st n r) := by
  unfold State.fromCode
  split
  · exact .elsewhere
  · exact State.fromLookup_keepsHead s _ _ _

theorem State.fromSession_keepsHead (st : Fin 8) (r : Report) : KeepsHead s (s.fromSession st r) := by
  unfold State.fromSession
  split
  · split
    · exact .trans (t := s.touch _) .elsewhere (State.fromCode_keepsHead _ _ _ _)
    · exact .elsewhere
  · split
    · exact .trans (t := (s.openSession st).touch s.nextSession) .elsewhere
        (State.fromCode_keepsHead _ _ _ _)
    · exact .elsewhere

theorem State.evaluate_keepsHead (st : Fin 8) (r : Report) : KeepsHead s (s.evaluate st r) := by
  unfold State.evaluate
  split
  · split
    · exact .refl s
    · split
      · exact .elsewhere
      · exact State.fromSession_keepsHead s st r
  · split
    · exact .refl s
    · exact .elsewhere
  all_goals exact .refl s

/-! ## Ends of held items (R44, R57, R58) -/

theorem State.endItems_keepsHead {verdict : Waiting → State → State}
    (h : ∀ w t, KeepsHead t (verdict w t)) (ws : List Waiting) :
    KeepsHead s (s.endItems verdict ws) := by
  induction ws generalizing s with
  | nil => exact .refl s
  | cons w ws ih =>
    have hunheld : KeepsHead (verdict w s) ((verdict w s).unhold w) := .elsewhere
    exact (((h w s).trans hunheld).trans (State.settle_keepsHead _ w.session)).trans (ih _)

theorem State.removeWaiting_keepsHead (gone : Waiting → Bool) (cause : EndedCause) :
    KeepsHead s (s.removeWaiting gone cause) := by
  rw [State.removeWaiting_eq]
  exact .trans (t := { s with referrals := withoutItems gone s.referrals }) .elsewhere
    (.of_hall (State.placeAll_hall _ _))

theorem State.unholdAll_keepsHead (ws : List Waiting) :
    KeepsHead s (ws.foldl (fun t w => t.unhold w) s) := by
  induction ws generalizing s with
  | nil => exact .refl s
  | cons w ws ih => exact .trans (t := s.unhold w) .elsewhere (ih _)

theorem State.removeStation_keepsHead (st : Fin 8) : KeepsHead s (s.removeStation st) :=
  (State.unholdAll_keepsHead s _).trans (State.removeWaiting_keepsHead _ _ _)

theorem State.leaveService_keepsHead (st : Fin 8) : KeepsHead s (s.leaveService st) := by
  refine (State.removeStation_keepsHead s st).trans ?_
  unfold State.leaveService
  dsimp only
  split
  · split
    · exact State.closeSession_keepsHead _ _ _
    · exact State.settle_keepsHead _ _
  · exact .refl _

theorem State.lose_keepsHead (st : Fin 8) (loss : LossCause) (cause : ChangeCause)
    (k : Option StationKind) : KeepsHead s (s.lose st loss cause k) :=
  (KeepsHead.trans (t := s.setStation st _) .elsewhere (State.leaveService_keepsHead _ st)).trans
    .elsewhere

theorem State.loadEntry_keepsHead (e : Entry) : KeepsHead s (s.loadEntry e).2 :=
  .of_hall (State.loadEntry_hall s e)

end

end Sys2Proof.Machine
end

section
/-! SUPPORT. Every command keeps the transfer on the head of the voucher queue (`KeepingHead`): those of stations,
items, sessions and vouchers by the operations of the hall, those of lanes because they stay in the back
room. -/

namespace Sys2Proof.Machine

-- One theorem after another: many that wait for the kernel at once take threads and memory.
set_option Elab.async false

/-- An outcome is a next state that keeps the transfer on the head of the voucher queue. -/
def KeepingHead (s : State) (o : Host.Outcome State Fault Refusal) : Prop :=
  ∃ t, o = .next t ∧ KeepsHead s t

theorem live_keepingHead {f : State → State} {s : State} (h : KeepsHead s (f s)) :
    KeepingHead s (live f s) := by
  cases hr : s.resetAsserted
  · exact ⟨f s, live_released hr, h⟩
  · exact ⟨s, live_asserted hr, .refl s⟩

theorem Quiet.keepingHead {s : State} {o : Host.Outcome State Fault Refusal} (h : Quiet s o) :
    KeepingHead s o := by
  obtain ⟨t, hnext, hfloor⟩ := h
  simp only [State.floor, Prod.mk.injEq] at hfloor
  obtain ⟨-, -, -, -, -, -, hqueue, hsession, -⟩ := hfloor
  exact ⟨t, hnext, .elsewhere (by rw [State.voucherHead, hqueue, hsession]; rfl)⟩

section
variable (s : State) (tag : Byte)

/-! ## Stations -/

theorem State.countAnnounce_keepsHead (st : Fin 8) (k : StationKind) :
    KeepsHead s (s.countAnnounce st k) := by
  unfold State.countAnnounce
  dsimp only
  split
  · exact .elsewhere
  · split <;> exact .elsewhere

theorem State.hearAnnounce_keepsHead (st : Fin 8) (k : StationKind) :
    KeepsHead s (s.hearAnnounce st k) := by
  unfold State.hearAnnounce
  dsimp only
  split
  · exact .elsewhere
  · exact State.lose_keepsHead s _ _ _ _

theorem execAnnounce_keepingHead (src : Nat) (payload : List Byte) :
    KeepingHead s (execAnnounce src payload s) := by
  refine live_keepingHead ?_
  split
  · split
    · exact State.countAnnounce_keepsHead s _ _
    · exact State.hearAnnounce_keepsHead s _ _
    · exact State.hearAnnounce_keepsHead s _ _
    · exact State.hearAnnounce_keepsHead s _ _
    all_goals exact .refl s
  · exact .refl s

theorem execSilenceExpiry_keepingHead (n : Nat) : KeepingHead s (execSilenceExpiry n s) := by
  refine live_keepingHead ?_
  split
  · split
    · split
      · exact State.lose_keepsHead s _ _ _ _
      · exact .refl s
    · exact .refl s
  · exact .refl s

theorem execReadStatusStation_keepingHead (n : Nat) :
    KeepingHead s (execReadStatusStation tag n s) := by
  refine live_keepingHead ?_
  split
  · exact State.refuse_keepsHead _ _ _ s
  · exact KeepsHead.reply .elsewhere _ _ _ _

theorem execStationGoListen_keepingHead (n : Nat) : KeepingHead s (execStationGoListen tag n s) := by
  refine live_keepingHead ?_
  split
  · exact State.refuse_keepsHead _ _ _ s
  · dsimp only
    split
    · exact KeepsHead.reply .elsewhere _ _ _ _
    · exact KeepsHead.reply .elsewhere _ _ _ _
    all_goals exact State.refuse_keepsHead _ _ _ s

/-- A station that enters OPERATING is delivered the sessions that wait for it (R73). -/
theorem State.operate_keepsHead (st : Fin 8) :
    KeepsHead s ((s.enterMode st .operating).deliverAwaiting st) := by
  have hpass (xs : List Session) (t : State) : KeepsHead t
      (xs.foldl (fun t x => if x.station = st then t.sendResult x else t) t) := by
    induction xs generalizing t with
    | nil => exact .refl t
    | cons x xs ih =>
      refine KeepsHead.trans ?_ (ih _)
      dsimp only
      split <;> exact .elsewhere
  exact .trans (t := s.enterMode st .operating) .elsewhere (hpass _ _)

theorem execStationGoOperate_keepingHead (n : Nat) :
    KeepingHead s (execStationGoOperate tag n s) := by
  refine live_keepingHead ?_
  split
  · exact State.refuse_keepsHead _ _ _ s
  · split
    · exact (State.operate_keepsHead s _).reply _ _ _ _
    · exact (State.operate_keepsHead s _).reply _ _ _ _
    all_goals exact State.refuse_keepsHead _ _ _ s

theorem execStationGoPause_keepingHead (n : Nat) : KeepingHead s (execStationGoPause tag n s) := by
  refine live_keepingHead ?_
  split
  · exact State.refuse_keepsHead _ _ _ s
  · split
    · exact KeepsHead.reply .elsewhere _ _ _ _
    all_goals exact State.refuse_keepsHead _ _ _ s

theorem State.turnOff_keepsHead (st : Fin 8) : KeepsHead s (s.turnOff st) := by
  have hleave (y : Station) : KeepsHead s ((s.setStation st y).leaveService st) :=
    .trans (t := s.setStation st y) .elsewhere (State.leaveService_keepsHead _ st)
  unfold State.turnOff
  dsimp only
  refine KeepsHead.trans ?_ .elsewhere
  split
  · exact .elsewhere
  · exact hleave _
  · exact hleave _
  · exact hleave _
  · exact .elsewhere
  · exact .refl s

theorem execStationGoOff_keepingHead (n : Nat) : KeepingHead s (execStationGoOff tag n s) := by
  refine live_keepingHead ?_
  split
  · exact State.refuse_keepsHead _ _ _ s
  · split
    · exact State.reply_keepsHead _ _ _ _ s
    · exact (State.turnOff_keepsHead s _).reply _ _ _ _

/-! ## Items and referrals -/

theorem execItemReport_keepingHead (src : Nat) (payload : List Byte) :
    KeepingHead s (execItemReport src payload s) := by
  refine live_keepingHead ?_
  split
  · exact State.evaluate_keepsHead s _ _
  · exact .refl s

theorem execItemWithdraw_keepingHead (src : Nat) (payload : List Byte) :
    KeepingHead s (execItemWithdraw src payload s) := by
  refine live_keepingHead ?_
  split
  · split
    · exact (KeepsHead.trans (t := s.unhold _) .elsewhere
        (State.removeWaiting_keepsHead _ _ _)).trans (State.settle_keepsHead _ _)
    · exact .refl s
  · exact .refl s

theorem execReferralExpiry_keepingHead (n : Nat) : KeepingHead s (execReferralExpiry n s) := by
  refine live_keepingHead ?_
  split
  · split
    · exact (State.endItems_keepsHead s (verdict := State.returnWaiting _)
        (fun _ _ => .elsewhere) _).trans .elsewhere
    · exact .refl s
  · exact .refl s

theorem State.lateEntry_keepsHead (e : Entry) : KeepsHead s (s.lateEntry tag e) := by
  have hload := State.loadEntry_keepsHead s e
  unfold State.lateEntry
  split
  all_goals
    next t ht =>
    rw [ht] at hload
    exact hload.reply _ _ _ _

/-- The items of a record that is freed get their ends. -/
theorem State.endRecord_keepsHead {verdict : Waiting → State → State}
    (h : ∀ w t, KeepsHead t (verdict w t)) (r : Referral) :
    KeepsHead s ((s.freeReferral r.number).endItems verdict r.waiting) :=
  .trans (t := s.freeReferral r.number) .elsewhere (State.endItems_keepsHead _ h _)

theorem State.answerMiss_keepsHead (r : Referral) (e : Entry) :
    KeepsHead s (s.answerMiss tag r e) := by
  have hload := State.loadEntry_keepsHead s e
  unfold State.answerMiss
  split
  · next t ht =>
    rw [ht] at hload
    exact hload.trans (State.refuse_keepsHead _ _ _ _)
  all_goals
    next t ht =>
    rw [ht] at hload
    exact (hload.trans (State.endRecord_keepsHead _
      (fun w u => State.fromLookup_keepsHead u _ _ w) r)).reply _ _ _ _

theorem execReferralAnswerEntry_keepingHead (n : Nat) (e : RawEntry) :
    KeepingHead s (execReferralAnswerEntry tag n e s) := by
  refine live_keepingHead ?_
  split
  · split
    · exact State.lateEntry_keepsHead s tag _
    · split
      · exact State.refuse_keepsHead _ _ _ s
      · exact State.answerMiss_keepsHead s tag _ _
  · exact State.refuse_keepsHead _ _ _ s

theorem State.resolve_keepsHead (r : Referral) {verdict : Waiting → State → State}
    (h : ∀ w t, KeepsHead t (verdict w t)) : KeepsHead s (s.resolve tag r verdict) :=
  (State.endRecord_keepsHead s h r).reply _ _ _ _

theorem execReferralAnswerDecide_keepingHead (n v c r : Nat) :
    KeepingHead s (execReferralAnswerDecide tag n v c r s) := by
  refine live_keepingHead ?_
  split
  · split
    · exact State.refuse_keepsHead _ _ _ s
    · split
      · exact State.resolve_keepsHead s tag _ fun _ _ => .elsewhere
      · split
        · exact State.resolve_keepsHead s tag _ fun _ t => State.fromCap_keepsHead t _
        · exact State.refuse_keepsHead _ _ _ s
  · exact State.refuse_keepsHead _ _ _ s

/-! ## Sessions -/

theorem execSessionClose_keepingHead (src : Nat) (payload : List Byte) :
    KeepingHead s (execSessionClose src payload s) := by
  refine live_keepingHead ?_
  split
  · split
    · split
      · exact State.closeSession_keepsHead s _ _
      · exact .refl s
    · split
      · exact State.closeSession_keepsHead s _ _
      · exact .refl s
    · exact .refl s
  · exact .refl s

theorem execIdleExpiry_keepingHead (n : Nat) : KeepingHead s (execIdleExpiry n s) := by
  refine live_keepingHead ?_
  split
  · split
    · split
      · exact State.closeSession_keepsHead s _ _
      · exact .refl s
    · exact .refl s
  · exact .refl s

theorem execDiscardSession_keepingHead (n : Nat) : KeepingHead s (execDiscardSession tag n s) := by
  refine live_keepingHead ?_
  split
  · exact State.refuse_keepsHead _ _ _ s
  · split
    · exact State.refuse_keepsHead _ _ _ s
    · split
      · exact KeepsHead.reply .elsewhere _ _ _ _
      · exact State.refuse_keepsHead _ _ _ s

/-! ## The Voucher Unit -/

theorem execRequestAccepted_keepingHead (src : Nat) (payload : List Byte) :
    KeepingHead s (execRequestAccepted src payload s) := by
  refine live_keepingHead ?_
  split
  · split
    · next htransfer _ =>
      split
      · exact .of_hall (State.enterData_hall s (congrArg Transfer.session? htransfer))
      · exact .of_hall (State.stopTransfer_hall s _)
    · exact .refl s
  · exact .refl s

theorem execVoucherStatus_keepingHead (src : Nat) (payload : List Byte) :
    KeepingHead s (execVoucherStatus src payload s) := by
  refine live_keepingHead ?_
  split
  · split
    · split
      · exact .of_hall (State.stopTransfer_hall s _)
      · exact State.endTransfer_keepsHead s _ _ _
    · exact .refl s
  · exact .refl s

theorem execReplyTimerExpiry_keepingHead : KeepingHead s (execReplyTimerExpiry s) := by
  refine live_keepingHead ?_
  split
  · split
    · exact .of_hall (State.stopTransfer_hall s _)
    · exact .refl s
  · exact .refl s

theorem State.onStopped_keepsHead (n : Nat) {act : Phase → Nat → State → State}
    (h : ∀ p t, s.transfer.session? = some n → KeepsHead s (act p t s)) :
    KeepsHead s (s.onStopped tag n act) := by
  unfold State.onStopped
  split
  · exact State.refuse_keepsHead _ _ _ s
  · split
    · next htransfer =>
      split
      · next hn =>
        subst hn
        exact h _ _ (congrArg Transfer.session? htransfer)
      · exact State.refuse_keepsHead _ _ _ s
    all_goals exact State.refuse_keepsHead _ _ _ s

theorem execVoucherControlResume_keepingHead (n : Nat) :
    KeepingHead s (execVoucherControlResume tag n s) :=
  live_keepingHead (State.onStopped_keepsHead s tag n fun _ _ h =>
    (KeepsHead.of_hall (State.resumePhase_hall s h)).reply _ _ _ _)

theorem execVoucherControlRestart_keepingHead (n : Nat) :
    KeepingHead s (execVoucherControlRestart tag n s) :=
  live_keepingHead (State.onStopped_keepsHead s tag n fun _ _ h =>
    (State.beginRequest_keepsHead s fun hs => voucherOk_iff.1 hs n h).reply _ _ _ _)

theorem execVoucherControlCancel_keepingHead (n : Nat) :
    KeepingHead s (execVoucherControlCancel tag n s) :=
  live_keepingHead (State.onStopped_keepsHead s tag n fun _ _ _ =>
    (State.endTransfer_keepsHead s n _ _).reply _ _ _ _)

theorem execVoucherControlAbort_keepingHead (n : Nat) :
    KeepingHead s (execVoucherControlAbort tag n s) := by
  refine live_keepingHead ?_
  split
  · exact State.refuse_keepsHead _ _ _ s
  · split
    · split
      · refine KeepsHead.reply (.of_hall ((State.stopTransfer_hall _ _).trans ?_)) _ _ _ _
        split <;> rfl
      · exact State.refuse_keepsHead _ _ _ s
    all_goals exact State.refuse_keepsHead _ _ _ s

/-! ## Timers and lanes -/

theorem execFrameSent_keepingHead (l : Link) : KeepingHead s (execFrameSent l s) := by
  refine live_keepingHead ?_
  dsimp only
  split
  · exact .of_hall ((State.startTimers_hall _ _).trans (State.onPort_hall s l _))
  · exact .refl s

theorem execDropDone_keepingHead (src : Nat) (payload : List Byte) :
    KeepingHead s (execDropDone src payload s) := by
  refine live_keepingHead ?_
  split
  · split
    · split
      · exact (State.endDrop_laneOnly _ _ s).keepsHead
      · exact .refl s
    · exact .refl s
  · exact .refl s

theorem execDropExpiry_keepingHead (n : Nat) : KeepingHead s (execDropExpiry n s) := by
  refine live_keepingHead ?_
  split
  · split
    · split
      · split
        · exact (State.endDrop_laneOnly _ _ s).keepsHead
        · exact .refl s
      · exact .refl s
    · exact .refl s
  · exact .refl s

theorem execStrokeRecordExpiry_keepingHead : KeepingHead s (execStrokeRecordExpiry s) := by
  refine live_keepingHead ?_
  split
  · split
    · exact .trans .elsewhere (State.consider_laneOnly _).keepsHead
    · exact .refl s
  · exact .refl s

theorem execLaneReport_keepingHead (src : Nat) (payload : List Byte) :
    KeepingHead s (execLaneReport src payload s) := by
  refine live_keepingHead ?_
  split
  · exact (State.report_laneOnly _ _ s).keepsHead
  · exact .refl s

theorem execFeedfltClear_keepingHead : KeepingHead s (execFeedfltClear s) := by
  refine ⟨_, rfl, ?_⟩
  unfold State.feedLevel
  dsimp only
  split
  · exact .elsewhere
  · rw [if_neg Bool.false_ne_true]
    exact .trans .elsewhere (State.consider_laneOnly _).keepsHead

theorem execSetLane_keepingHead (n k r c f w : Nat) :
    KeepingHead s (execSetLane tag n k r c f w s) := by
  refine live_keepingHead ?_
  split
  · dsimp only
    split
    · split
      · exact State.refuse_keepsHead _ _ _ s
      · exact ((LaneOnly.setLane _ _ s).trans (State.testNearlyFull_laneOnly _ _)).keepsHead.reply
          _ _ _ _
    · exact State.refuse_keepsHead _ _ _ s
  · exact State.refuse_keepsHead _ _ _ s

theorem execLaneGoOpen_keepingHead (n : Nat) : KeepingHead s (execLaneGoOpen tag n s) := by
  refine live_keepingHead ?_
  split
  · exact State.refuse_keepsHead _ _ _ s
  · dsimp only
    split
    · split
      · refine KeepsHead.reply ?_ _ _ _ _
        split
        · exact (State.changeLane_laneOnly _ _ s).keepsHead
        · exact (State.returnTo_laneOnly _ _ s).keepsHead
      · exact State.refuse_keepsHead _ _ _ s
    · exact (State.returnTo_laneOnly _ _ s).keepsHead.reply _ _ _ _
    all_goals exact State.refuse_keepsHead _ _ _ s

theorem execLaneGoDrain_keepingHead (n : Nat) : KeepingHead s (execLaneGoDrain tag n s) := by
  refine live_keepingHead ?_
  split
  · exact State.refuse_keepsHead _ _ _ s
  · split
    · exact (State.changeLane_laneOnly _ _ s).keepsHead.reply _ _ _ _
    · exact (LaneOnly.setLane _ _ s).keepsHead.reply _ _ _ _
    all_goals exact State.refuse_keepsHead _ _ _ s

theorem execLaneGoClearFault_keepingHead (n : Nat) :
    KeepingHead s (execLaneGoClearFault tag n s) := by
  refine live_keepingHead ?_
  split
  · exact State.refuse_keepsHead _ _ _ s
  · split
    · split
      · exact State.refuse_keepsHead _ _ _ s
      · exact ((LaneOnly.setPipe _ _ s).trans (State.changeLane_laneOnly _ _ _)).keepsHead.reply
          _ _ _ _
    all_goals exact State.refuse_keepsHead _ _ _ s

theorem execMaskLane_keepingHead (n m : Nat) : KeepingHead s (execMaskLane tag n m s) := by
  refine live_keepingHead ?_
  split
  · exact (LaneOnly.setLane _ _ s).keepsHead.reply _ _ _ _
  · exact State.refuse_keepsHead _ _ _ s

theorem execReadStatusLane_keepingHead (n : Nat) : KeepingHead s (execReadStatusLane tag n s) := by
  refine live_keepingHead ?_
  split
  · exact State.reply_keepsHead _ _ _ _ s
  · split
    · exact State.refuse_keepsHead _ _ _ s
    · exact (LaneOnly.setLane _ _ s).keepsHead.reply _ _ _ _

/-! ## Resets -/

theorem execResetRelease_keepingHead : KeepingHead s (execResetRelease s) := by
  refine ⟨_, rfl, ?_⟩
  split
  · have hreleased : KeepsHead s s.released := fun _ => .inl rfl
    split
    · exact hreleased.trans .elsewhere
    · exact hreleased
  · exact .refl s

/-- CORNER RESET leaves the transfer record IDLE (R95). -/
theorem execCornerReset_keepingHead : KeepingHead s (execCornerReset tag s) := by
  refine live_keepingHead (KeepsHead.reply (fun _ => .inl ?_) _ _ _ _)
  unfold State.resetCorner
  dsimp only
  rw [State.resetLanes_laneOnly s.resetReferrals.resetSessions.resetVoucher]
  rfl

end

/-! ## Every step -/

theorem exec_keepingHead (s : State) (c : Instr) : KeepingHead s (exec c s) := by
  cases hquiet : isQuiet c with
  | true => exact (exec_quiet s hquiet).keepingHead
  | false =>
    cases c with
    | resetRelease => exact execResetRelease_keepingHead s
    | feedfltClear => exact execFeedfltClear_keepingHead s
    | frameSent l => exact execFrameSent_keepingHead s l
    | announce src p => exact execAnnounce_keepingHead s src p
    | silenceExpiry n => exact execSilenceExpiry_keepingHead s n
    | itemReport src p => exact execItemReport_keepingHead s src p
    | itemWithdraw src p => exact execItemWithdraw_keepingHead s src p
    | sessionClose src p => exact execSessionClose_keepingHead s src p
    | idleExpiry n => exact execIdleExpiry_keepingHead s n
    | referralExpiry n => exact execReferralExpiry_keepingHead s n
    | requestAccepted src p => exact execRequestAccepted_keepingHead s src p
    | voucherStatus src p => exact execVoucherStatus_keepingHead s src p
    | replyTimerExpiry => exact execReplyTimerExpiry_keepingHead s
    | dropDone src p => exact execDropDone_keepingHead s src p
    | dropExpiry n => exact execDropExpiry_keepingHead s n
    | strokeRecordExpiry => exact execStrokeRecordExpiry_keepingHead s
    | laneReport src p => exact execLaneReport_keepingHead s src p
    | referralAnswerEntry tag n r => exact execReferralAnswerEntry_keepingHead s tag n r
    | referralAnswerDecide tag n v c r => exact execReferralAnswerDecide_keepingHead s tag n v c r
    | discardSession tag n => exact execDiscardSession_keepingHead s tag n
    | voucherControlResume tag n => exact execVoucherControlResume_keepingHead s tag n
    | voucherControlRestart tag n => exact execVoucherControlRestart_keepingHead s tag n
    | voucherControlCancel tag n => exact execVoucherControlCancel_keepingHead s tag n
    | voucherControlAbort tag n => exact execVoucherControlAbort_keepingHead s tag n
    | setLane tag l k r c f w => exact execSetLane_keepingHead s tag l k r c f w
    | laneGoOpen tag n => exact execLaneGoOpen_keepingHead s tag n
    | laneGoDrain tag n => exact execLaneGoDrain_keepingHead s tag n
    | laneGoClearFault tag n => exact execLaneGoClearFault_keepingHead s tag n
    | maskLane tag l m => exact execMaskLane_keepingHead s tag l m
    | readStatusStation tag n => exact execReadStatusStation_keepingHead s tag n
    | readStatusLane tag n => exact execReadStatusLane_keepingHead s tag n
    | stationGoListen tag n => exact execStationGoListen_keepingHead s tag n
    | stationGoOperate tag n => exact execStationGoOperate_keepingHead s tag n
    | stationGoPause tag n => exact execStationGoPause_keepingHead s tag n
    | stationGoOff tag n => exact execStationGoOff_keepingHead s tag n
    | cornerReset tag => exact execCornerReset_keepingHead s tag
    | _ => cases hquiet

theorem step_keepsHead {s t : State} (h : step s = .next t) : KeepsHead s t := by
  rcases step_cases h with ⟨c, rest, hexec⟩ | rfl
  · obtain ⟨u, hu, hkeeps⟩ := exec_keepingHead { s with pending := rest } c
    rw [hexec] at hu
    cases hu
    exact .trans (t := { s with pending := rest }) .elsewhere hkeeps
  · obtain ⟨u, hu, hkeeps⟩ := Quiet.keepingHead ⟨s.tick, rfl, State.tick_floor s⟩
    cases hu
    exact hkeeps

/-- Settles O59: the queue changes only behind its head, or with the end of the transfer. -/
theorem stepKeepsTheVoucherHead : Obligations.StepKeepsTheVoucherHead := by
  unfold Obligations.StepKeepsTheVoucherHead
  exact fun s t hs hstep => step_keepsHead hstep hs

end Sys2Proof.Machine
end

section
/-! PROOFS. The Voucher Unit at the front link: sent and held frames (R82, R84, R124, R173), REQUEST ACCEPTED (R83,
R84), the checks of a VOUCHER STATUS (R85), the stops of a transfer (R82, R85, R87, R92), and the reads of the
Voucher Unit and of the Stroke Budget (R94, R147). -/

namespace Sys2Proof.Machine

-- One theorem after another: many that wait for the kernel at once take threads and memory.
set_option Elab.async false

/-! ## Sent frames -/

section
variable {s : State}

/-- The latest frame of a transfer in REQUEST or STATUS starts the reply timer (R82). -/
theorem State.startReplyTimer_latest {ph : Phase} {n tag serial : Nat} {e : Option Nat}
    (htransfer : s.transfer = .running ph n tag e serial) (hph : ph ≠ .data) :
    s.startReplyTimer serial = { s with
      transfer := .running ph n tag (some (s.now + s.params.voucherTimeout)) serial } := by
  unfold State.startReplyTimer
  rw [htransfer]
  exact if_pos ⟨hph, rfl⟩

/-- A frame that is not the latest of the transfer starts no reply timer (R82). -/
theorem State.startReplyTimer_other {serial : Nat}
    (h : ∀ ph n tag e, s.transfer ≠ .running ph n tag e serial) : s.startReplyTimer serial = s := by
  unfold State.startReplyTimer
  split
  · next htransfer =>
    exact if_neg fun ⟨_, hlatest⟩ => h _ _ _ _ (hlatest ▸ htransfer)
  · rfl
  · rfl

/-- The DROP GO of the order in the dropping position starts its drop timer (R124). -/
theorem State.startDropTimer_go {i : Fin 12} {d : Dropping} {serial : Nat}
    (hd : (s.pipes[i]).dropping = some d) (hgo : d.go = serial) :
    s.startDropTimer serial (laneNo i) = s.setPipe i { s.pipes[i] with
      dropping := some { d with expiry := some (s.now + s.params.dropTimeout) } } := by
  unfold State.startDropTimer
  rw [laneIx_laneNo]
  dsimp only
  rw [hd]
  exact if_pos hgo

/-- A DROP GO of no order in a dropping position starts no drop timer (R124). -/
theorem State.startDropTimer_other {serial : Nat}
    (h : ∀ (i : Fin 12) d, (s.pipes[i]).dropping = some d → d.go ≠ serial) (lane : Nat) :
    s.startDropTimer serial lane = s := by
  unfold State.startDropTimer
  split
  · rfl
  · split
    · next hd => exact if_neg (h _ _ hd)
    · rfl

/-- A frame of the Voucher Unit's transfer (R83, R84, R89). -/
def Frame.OfTransfer (tag : Nat) (f : Frame) : Prop :=
  (∃ a b c d, f = .voucherRequest tag a b c d) ∨ (∃ a b c, f = .voucherLines tag a b c) ∨
    ∃ a, f = .statusQuery tag a

theorem State.startTimers_ofTransfer {q : Queued} {tag : Nat} (h : q.frame.OfTransfer tag) :
    s.startTimers q = s.startReplyTimer q.serial := by
  unfold State.startTimers
  rcases h with ⟨a, b, c, d, h⟩ | ⟨a, b, c, h⟩ | ⟨a, h⟩ <;> rw [h]

theorem State.startTimers_dropGo {q : Queued} {lane handle : Nat}
    (h : q.frame = .dropGo lane handle) : s.startTimers q = s.startDropTimer q.serial lane := by
  unfold State.startTimers
  rw [h]

theorem State.startTimers_other {q : Queued}
    (htransfer : ∀ ph n tag e, s.transfer ≠ .running ph n tag e q.serial)
    (hdropping : ∀ (i : Fin 12) d, (s.pipes[i]).dropping = some d → d.go ≠ q.serial) :
    s.startTimers q = s := by
  unfold State.startTimers
  split
  · exact State.startReplyTimer_other htransfer
  · exact State.startReplyTimer_other htransfer
  · exact State.startReplyTimer_other htransfer
  · exact State.startDropTimer_other hdropping _
  all_goals rfl

/-- The frame being sent has left the queue of its port, `rest` being the frames behind it (R172); the line
is not idle then (log entry 44). -/
def State.sent (l : Link) (rest : List Queued) (s : State) : State :=
  s.onPort l fun p => { p with queue := rest, transmitter := .idle, idle := false, lastLine := s.now }

/-- The frame being sent leaves its queue, and its timer is started (R172). -/
theorem exec_frameSent {l : Link} {q : Queued} {rest : List Queued}
    (hreset : s.resetAsserted = false) (hsending : (s.port l).transmitter = .sending)
    (hqueue : (s.port l).queue = q :: rest) :
    exec (.frameSent l) s = .next ((s.sent l rest).startTimers q) := by
  refine Eq.trans (b := execFrameSent l s) rfl ?_
  unfold execFrameSent
  rw [live_released hreset, hsending, hqueue]
  rfl

end

/-- Settles O8: by the kind of the frame, and whether it is the one that a timer is tied to. -/
theorem sentFrameLeavesAndStartsItsTimer : Obligations.SentFrameLeavesAndStartsItsTimer := by
  unfold Obligations.SentFrameLeavesAndStartsItsTimer
  refine ⟨fun s q rest ph n tag e hreset hsending hqueue hframe htransfer hph => ?_,
    fun s q rest i h d hreset hsending hqueue hframe hd hgo => ?_,
    fun l s q rest hreset hsending hqueue htransfer hdropping => ?_⟩
  · have hstarts := (State.startTimers_ofTransfer hframe).trans
      (State.startReplyTimer_latest (s := s.sent .front rest) htransfer hph)
    exact (exec_frameSent (l := .front) hreset hsending hqueue).trans (congrArg _ hstarts)
  · have hstarts := (State.startTimers_dropGo hframe).trans
      (State.startDropTimer_go (s := s.sent .back rest) hd hgo)
    exact (exec_frameSent (l := .back) hreset hsending hqueue).trans (congrArg _ hstarts)
  · have hnone := State.startTimers_other (s := s.sent l rest) htransfer hdropping
    exact (exec_frameSent hreset hsending hqueue).trans (congrArg _ hnone)

/-! ## Held frames -/

section
variable {s : State}

/-- All that the placing of a held frame may change is the phase of the transfer (R84). -/
theorem State.linesPlaced_eq (serial : Nat) (s : State) :
    s.linesPlaced serial = { s with transfer := (s.linesPlaced serial).transfer } := by
  unfold State.linesPlaced
  split
  · split <;> rfl
  · rfl

/-- With its last VOUCHER LINES frame placed a transfer in DATA goes to STATUS (R84). -/
theorem State.linesPlaced_latest {n tag serial : Nat} {e : Option Nat}
    (h : s.transfer = .running .data n tag e serial) :
    (s.linesPlaced serial).transfer = .running .status n tag e serial := by
  unfold State.linesPlaced
  rw [h]
  dsimp only
  rw [if_pos rfl]

theorem State.linesPlaced_other {serial : Nat}
    (h : ∀ n tag e, s.transfer ≠ .running .data n tag e serial) : s.linesPlaced serial = s := by
  unfold State.linesPlaced
  split
  · next htransfer => exact if_neg fun hlatest => h _ _ _ (hlatest ▸ htransfer)
  · rfl

/-- The frame held longest takes the room (R173). -/
theorem exec_heldFramePlaced {l : Link} {q : Queued} {rest : List Queued}
    (hreset : s.resetAsserted = false) (hheld : (s.port l).held = q :: rest)
    (hroom : (s.port l).queue.length < capacityOf l) :
    exec (.heldFramePlaced l) s = .next (State.linesPlaced q.serial
      (s.onPort l fun p => { p with queue := p.queue ++ [q], held := rest })) := by
  refine Eq.trans (b := execHeldFramePlaced l s) rfl ?_
  unfold execHeldFramePlaced
  rw [live_released hreset, hheld]
  dsimp only
  rw [if_pos hroom]

end

/-- Settles O9. -/
theorem heldFrameTakesTheRoom : Obligations.HeldFrameTakesTheRoom := by
  unfold Obligations.HeldFrameTakesTheRoom
  intro l s q rest hreset hheld hroom
  exact ⟨_, exec_heldFramePlaced hreset hheld hroom, State.linesPlaced_eq _ _,
    fun n tag e h => State.linesPlaced_latest (s := s.onPort l _) h,
    fun h => (congrArg State.transfer (State.linesPlaced_other (s := s.onPort l _) h)).trans rfl⟩

/-! ## REQUEST ACCEPTED -/

/-- The frames of n lines are n ÷ 4 and one more (R84). -/
theorem lineFrames_length (n tag : Nat) (lines : List VoucherLine) :
    (lineFrames n tag lines).length = lines.length / 4 + 1 := by
  simp [lineFrames]

/-- Each frame has the next four lines, or what is left of them (R84). -/
theorem lineFrames_getElem (n tag : Nat) (lines : List VoucherLine) (k : Nat)
    (h : k < (lineFrames n tag lines).length) : (lineFrames n tag lines)[k] =
      .voucherLines tag n (k + 1) ((lines.drop (4 * k)).take 4) := by
  simp [lineFrames]

section
variable {s : State} {n tag l : Nat} {e : Option Nat} {x : Session} {payload : List Byte}

/-- The last of the VOUCHER LINES frames is the latest frame of the transfer (R82, R84). -/
theorem State.enterData_latest (tag : Nat) (hx : s.session? n = some x) :
    (s.enterData n tag).transfer = .running .data n tag none (s.enterData n tag).serial ∨
      (s.enterData n tag).transfer = .running .status n tag none (s.enterData n tag).serial := by
  unfold State.enterData
  rw [hx]
  dsimp only
  split
  · exact .inl rfl
  · exact .inr rfl

/-- A running transfer stops with its VOUCHER STOPPED notice (R87). -/
theorem State.stopTransfer_sends {ph : Phase} (cause : StopCause)
    (htransfer : s.transfer = .running ph n tag e l) (hx : s.session? n = some x) :
    Sends [.notice (.voucherStopped n (stationNo x.station) x.credit tag ph cause)] []
      { s with transfer := .stopped ph cause n tag } (s.stopTransfer cause) := by
  unfold State.stopTransfer
  rw [htransfer]
  dsimp only
  rw [hx]
  exact State.notify_sends _ _

theorem exec_requestAccepted {g : Nat} (hreset : s.resetAsserted = false)
    (htransfer : s.transfer = .running .request n tag e l) (htag : parseTag payload = some g) :
    exec (.requestAccepted 14 payload) s =
      .next (if g = tag then s.enterData n tag else s.stopTransfer .tag) := by
  refine Eq.trans (b := execRequestAccepted 14 payload s) rfl ?_
  unfold execRequestAccepted
  rw [live_released hreset, if_pos (show 14 = tillBridge from rfl), htransfer, htag]

/-- Outside REQUEST a REQUEST ACCEPTED is ignored (R93). -/
theorem execRequestAccepted_outside (src : Nat) (payload : List Byte)
    (h : ∀ n tag e l, s.transfer ≠ .running .request n tag e l) :
    execRequestAccepted src payload s = .next s := by
  refine live_ignored ?_
  split
  · split
    · next htransfer _ => exact absurd htransfer (h _ _ _ _)
    · rfl
  · rfl

end

/-- Settles O29. -/
theorem acceptedRequestSendsTheLines : Obligations.AcceptedRequestSendsTheLines := by
  unfold Obligations.AcceptedRequestSendsTheLines
  refine ⟨fun payload n tag l e x s hreset htransfer hx htag => ?_,
    fun payload n tag g l e x s hreset htransfer hx htag hg => ?_, fun src payload s h => ?_⟩
  · have hexec := exec_requestAccepted hreset htransfer htag
    rw [if_pos rfl] at hexec
    exact ⟨_, _, hexec, State.enterData_sends tag hx, State.enterData_latest tag hx,
      lineFrames_length n tag x.lines, lineFrames_getElem n tag x.lines⟩
  · have hexec := exec_requestAccepted hreset htransfer htag
    rw [if_neg hg] at hexec
    exact ⟨_, hexec, State.stopTransfer_sends .tag htransfer hx⟩
  · exact h.elim (fun hsrc => execRequestAccepted_ignored (.inl hsrc))
      (execRequestAccepted_outside src payload)

/-! ## The checks of a VOUCHER STATUS -/

/-- A payload that is not 16 bytes long fails the first check (R85). -/
theorem checkStatus_length (tag : Nat) {p : List Byte} (h : p.length ≠ 16) :
    checkStatus tag p = .error .length := by
  unfold checkStatus
  rw [fields_eq_none (ws := [2, 2, 1, 5, 6]) h]

/-- Settles O31: a payload of 16 bytes has the five fields, and the checks go through the first four. -/
theorem statusIsCheckedInOrder : Obligations.StatusIsCheckedInOrder := by
  unfold Obligations.StatusIsCheckedInOrder
  refine ⟨fun tag p h => checkStatus_length tag h, fun tag m g o v x p hfields => ?_⟩
  unfold checkStatus
  rw [hfields]
  dsimp only
  refine ⟨fun hm => if_pos hm, fun hm hg => ?_, fun hm hg ho => ?_, fun hm hg ho hv => ?_,
    fun hm hg ho hv => ?_⟩
  · rw [if_neg (not_not.2 hm), if_pos hg]
  · rw [if_neg (not_not.2 hm), if_neg (not_not.2 hg), if_pos ho]
  · rw [if_neg (not_not.2 hm), if_neg (not_not.2 hg), if_neg (not_not.2 ho)]
    exact if_pos hv
  · rw [if_neg (not_not.2 hm), if_neg (not_not.2 hg), if_neg (not_not.2 ho)]
    exact if_neg (Nat.not_lt.2 hv)

/-! ## Stops -/

section
variable {s : State} {ph : Phase} {n tag l : Nat} {e : Option Nat} {x : Session}

theorem exec_replyTimerExpiry {d : Nat} (hreset : s.resetAsserted = false)
    (htransfer : s.transfer = .running ph n tag (some d) l) (hd : d ≤ s.now) :
    exec .replyTimerExpiry s = .next (s.stopTransfer .timeout) := by
  refine Eq.trans (b := execReplyTimerExpiry s) rfl ?_
  unfold execReplyTimerExpiry
  rw [live_released hreset, htransfer]
  exact congrArg _ (if_pos hd)

theorem exec_voucherStatus_fails {payload : List Byte} {cause : StopCause}
    (hreset : s.resetAsserted = false) (htransfer : s.transfer = .running .status n tag e l)
    (hcheck : checkStatus tag payload = .error cause) :
    exec (.voucherStatus 14 payload) s = .next (s.stopTransfer cause) := by
  refine Eq.trans (b := execVoucherStatus 14 payload s) rfl ?_
  unfold execVoucherStatus
  rw [live_released hreset, if_pos (show 14 = tillBridge from rfl)]
  simp only [htransfer, hcheck]

/-- ABORT of the running transfer of the named session; in DATA the frames that wait for room are given up
first (R92). -/
theorem exec_voucherControlAbort (cmd : Byte) (hreset : s.resetAsserted = false)
    (htransfer : s.transfer = .running ph n tag e l) (hn : n ≠ 0) :
    exec (.voucherControlAbort cmd n) s =
      .next (((if ph = .data then s.dropHeldLines else s).stopTransfer .aborted).reply cmd 14 .ok []) := by
  refine Eq.trans (b := execVoucherControlAbort cmd n s) rfl ?_
  unfold execVoucherControlAbort
  rw [live_released hreset, if_neg hn, htransfer]
  exact congrArg _ (if_pos rfl)

end

/-- Settles O32: each cause is a stop (`State.stopTransfer_sends`), and ABORT adds its REPLY. -/
theorem transferStopsWithItsCause : Obligations.TransferStopsWithItsCause := by
  unfold Obligations.TransferStopsWithItsCause
  intro ph n tag l e x s hreset htransfer hx
  have hreply (cmd : Byte) (t : State) := State.reply_sends cmd 14 .ok [] t
  refine ⟨fun d hd hdue => ?_, fun payload cause hph hcheck => ?_, fun cmd hph hn => ?_,
    fun cmd hph hn => ?_⟩
  · subst hd
    exact ⟨_, exec_replyTimerExpiry hreset htransfer hdue, State.stopTransfer_sends _ htransfer hx⟩
  · subst hph
    exact ⟨_, exec_voucherStatus_fails hreset htransfer hcheck,
      State.stopTransfer_sends _ htransfer hx⟩
  · have hexec := exec_voucherControlAbort cmd hreset htransfer hn
    rw [if_pos hph] at hexec
    exact ⟨_, hexec, (State.stopTransfer_sends (s := s.dropHeldLines) .aborted htransfer hx).trans
      (hreply cmd _)⟩
  · have hexec := exec_voucherControlAbort cmd hreset htransfer hn
    rw [if_neg hph] at hexec
    exact ⟨_, hexec, (State.stopTransfer_sends .aborted htransfer hx).trans (hreply cmd _)⟩

/-! ## READ VOUCHER and READ BUDGET -/

/-- Settles O34: each command is its REPLY and nothing else. -/
theorem voucherUnitAndBudgetAreRead : Obligations.VoucherUnitAndBudgetAreRead := by
  unfold Obligations.VoucherUnitAndBudgetAreRead
  exact ⟨fun tag s hreset => live_replies hreset rfl, fun tag s hreset => live_replies hreset rfl⟩

end Sys2Proof.Machine
end

section
/-! SUPPORT. The limits of the stroke budget (R139, R140, R146), of the outgoing queues (R173) and of the lane
queues (R119), taken together (`Limited`): the elementary changes that keep them, and the moves of orders,
with the grants of the Stroke Budget. -/

namespace Sys2Proof.Machine

-- One theorem after another: many that wait for the kernel at once take threads and memory.
set_option Elab.async false

/-- The strokes, the outgoing queues and the lane queues are within their limits.  It is a statement of five
fields of the state, so a state that differs in other fields only is limited by the same proof. -/
def Limited (s : State) : Prop := StrokesOk s ∧ PortsOk s ∧ QueuesOk s

section
variable {s : State}

/-! ## Elementary changes -/

theorem Limited.lane_queue (h : Limited s) (i : Fin 12) :
    (s.pipes[i]).queue.length ≤ Config.maxQueue := by
  obtain ⟨-, -, hqueues⟩ := h
  exact hqueues i

/-- Strokes and budget are written within the limit (R139, R140). -/
theorem Limited.of_strokes {t : State} (h : Limited s) (hstrokes : StrokesOk t)
    (hfront : t.front = s.front := by rfl) (hback : t.back = s.back := by rfl)
    (hpipes : t.pipes = s.pipes := by rfl) : Limited t := by
  obtain ⟨-, hports, hqueues⟩ := h
  unfold PortsOk at hports
  unfold QueuesOk at hqueues
  rw [← hfront, ← hback] at hports
  rw [← hpipes] at hqueues
  exact ⟨hstrokes, hports, hqueues⟩

/-- A frame takes its place in a queue with room, or is held (R173). -/
theorem Limited.place (h : Limited s) (f : Frame) : Limited (s.place f) := by
  obtain ⟨hstrokes, ⟨hfront, hback⟩, hqueues⟩ := h
  refine ⟨hstrokes, ?_, hqueues⟩
  unfold PortsOk State.place
  cases f.link
  · exact ⟨Port.produce_length _ _ _ hfront, hback⟩
  · exact ⟨hfront, Port.produce_length _ _ _ hback⟩

theorem Limited.notify (h : Limited s) (n : Notice) : Limited (s.notify n) := h.place _

theorem Limited.placeAll (h : Limited s) (fs : List Frame) : Limited (s.placeAll fs) := by
  induction fs generalizing s with
  | nil => exact h
  | cons f fs ih => exact ih (h.place f)

theorem Limited.reply (h : Limited s) (tag : Byte) (code : Nat) (r : ReplyCode)
    (results : List Byte) : Limited (s.reply tag code r results) := h.placeAll _

theorem Limited.refuse (h : Limited s) (tag : Byte) (code : Nat) (r : ReplyCode) :
    Limited (s.refuse tag code r) := h.placeAll _

/-- A port changes with its queue within its capacity. -/
theorem Limited.onPort (h : Limited s) (l : Link) {f : Port → Port}
    (hf : (s.port l).queue.length ≤ capacityOf l → (f (s.port l)).queue.length ≤ capacityOf l) :
    Limited (s.onPort l f) := by
  obtain ⟨hstrokes, ⟨hfront, hback⟩, hqueues⟩ := h
  cases l
  · exact ⟨hstrokes, ⟨hf hfront, hback⟩, hqueues⟩
  · exact ⟨hstrokes, ⟨hfront, hf hback⟩, hqueues⟩

/-- A pipeline is written with its queue within 6 orders (R119). -/
theorem Limited.setPipe (h : Limited s) (i : Fin 12) {p : Pipeline}
    (hp : p.queue.length ≤ Config.maxQueue) : Limited (s.setPipe i p) := by
  obtain ⟨hstrokes, hports, hqueues⟩ := h
  refine ⟨hstrokes, hports, fun j => ?_⟩
  rw [State.setPipe_get]
  split
  · exact hp
  · exact hqueues j

/-- A pipeline is written with its queue as it stands. -/
theorem Limited.editPipe (h : Limited s) (i : Fin 12) {p : Pipeline}
    (hp : p.queue = (s.pipes[i]).queue := by rfl) : Limited (s.setPipe i p) :=
  h.setPipe i (hp ▸ h.lane_queue i)

/-- No limit speaks of the records of the lanes. -/
theorem Limited.setLane (h : Limited s) (i : Fin 12) (l : Lane) : Limited (s.setLane i l) := h

/-! ## Moves of orders (R121 to R123) -/

theorem Limited.stage (h : Limited s) (i : Fin 12) : Limited (s.stage i) := by
  unfold State.stage
  dsimp only
  split
  · next o rest _ hqueue =>
    split
    · have hrest := h.lane_queue i
      rw [hqueue] at hrest
      exact (h.setPipe i (Nat.le_of_succ_le hrest)).place _
    · exact h
  · exact h

theorem Limited.enterDropping (h : Limited s) (i : Fin 12) : Limited (s.enterDropping i) := by
  unfold State.enterDropping
  split
  · exact h
  · exact ((h.editPipe i).place _).stage i

/-- A grant is made for a weight that the budget has room for (R140, R142). -/
theorem Limited.grant {w : Nat} (h : Limited s) (i : Fin 12)
    (hroom : s.strokeSum + w ≤ s.params.budget) : Limited (s.grant i w) := by
  have hrecord : Limited { s with strokes := s.strokes ++ [⟨s.now, w, i⟩], pointer := i + 1 } := by
    refine h.of_strokes ?_
    simpa [StrokesOk, State.strokeSum] using hroom
  exact (hrecord.editPipe i).enterDropping i

theorem Limited.grantInTurn (h : Limited s) (n : Nat) : Limited (State.grantInTurn n s) := by
  induction n generalizing s with
  | zero => exact h
  | succ n ih =>
    unfold State.grantInTurn
    split
    · exact h
    · split
      · exact h
      · split
        · next hroom => exact ih (h.grant _ hroom)
        · exact h

theorem Limited.consider (h : Limited s) : Limited s.consider := by
  unfold State.consider
  split
  · exact h
  · exact h.grantInTurn 12

theorem Limited.requestStroke (h : Limited s) (i : Fin 12) : Limited (s.requestStroke i) :=
  (h.editPipe i).consider

theorem Limited.withdrawStroke (h : Limited s) (i : Fin 12) : Limited (s.withdrawStroke i) := by
  unfold State.withdrawStroke
  split
  · exact (h.editPipe i).consider
  · exact h

theorem Limited.startDrop (h : Limited s) (i : Fin 12) : Limited (s.startDrop i) := by
  unfold State.startDrop
  dsimp only
  split
  · split
    · exact h.enterDropping i
    all_goals
      split
      · exact h
      · exact h.requestStroke i
  · exact h

theorem Limited.advance (h : Limited s) (i : Fin 12) : Limited (s.advance i) :=
  (h.stage i).startDrop i

/-- An order joins a queue that has room for it (R101, R119, R121). -/
theorem Limited.appendOrder (h : Limited s) {i : Fin 12} (o : Order)
    (hroom : (s.pipes[i]).queue.length < Config.maxQueue) : Limited (s.appendOrder i o) := by
  have hqueue : ((s.pipes[i]).queue ++ [o]).length ≤ Config.maxQueue := by simpa using hroom
  exact (h.setPipe i (p := { s.pipes[i] with queue := (s.pipes[i]).queue ++ [o] }) hqueue).advance i

end

end Sys2Proof.Machine
end

section
/-! SUPPORT. The operations of the back room keep the limits of strokes and queues (`Limited`): fills and
overflow, rerouting, changes of a lane's state, ends of drops, lane reports. -/

namespace Sys2Proof.Machine

-- One theorem after another: many that wait for the kernel at once take threads and memory.
set_option Elab.async false

section
variable {s : State}

/-! ## Fills and overflow (R99, R100, R113, R114) -/

theorem Limited.testNearlyFull (h : Limited s) (i : Fin 12) : Limited (s.testNearlyFull i) := by
  unfold State.testNearlyFull
  dsimp only
  split
  · exact (h.setLane i _).notify _
  · exact h

theorem Limited.reserve (h : Limited s) (i : Fin 12) (f : Nat) : Limited (s.reserve i f) :=
  (h.setLane i _).testNearlyFull i

theorem Limited.release (h : Limited s) (i : Fin 12) (f : Nat) : Limited (s.release i f) :=
  (h.setLane i _).testNearlyFull i

theorem Limited.commit (h : Limited s) (i : Fin 12) (f : Nat) : Limited (s.commit i f) :=
  (h.setLane i _).testNearlyFull i

theorem Limited.testOverflowHigh (h : Limited s) : Limited s.testOverflowHigh := by
  unfold State.testOverflowHigh
  split
  · refine Limited.notify ?_ _
    exact h
  · exact h

theorem Limited.overflowOrder (h : Limited s) (o : Order) : Limited (s.overflowOrder o) :=
  Limited.testOverflowHigh (s := State.onTotals (Totals.overflow o.fill) _) h

theorem Limited.toOverflow (h : Limited s) (i : Fin 12) (o : Order) : Limited (s.toOverflow i o) :=
  (h.release i o.fill).overflowOrder o

/-! ## Rerouting and changes of a lane's state (R102, R111, R112) -/

theorem Limited.changeLane (h : Limited s) (i : Fin 12) (st : LaneState) :
    Limited (s.changeLane i st) := by
  have hmode : Limited ((s.storeLaneState i st).placeLaneMode i) :=
    (h.setLane i _).place _
  unfold State.changeLane
  dsimp only
  split
  · exact hmode
  · exact hmode.withdrawStroke i

/-- Lane choice takes a lane whose queue has room (R101). -/
theorem State.chooseLane_queue {route : RouteClass} {fill : Lane → Nat} {out : Option (Fin 12)}
    {i : Fin 12} (h : s.chooseLane route fill out = some i) :
    (s.pipes[i]).queue.length < Config.maxQueue := by
  obtain ⟨-, -, -, -, hqueue, -⟩ := State.isCandidate_iff.1 (State.chooseLane_candidate h)
  exact hqueue

theorem Limited.reroute (h : Limited s) (i : Fin 12) (o : Order) : Limited (s.reroute i o) := by
  have hreleased := h.release i o.fill
  unfold State.reroute
  dsimp only
  split
  · next j hj =>
    refine (hreleased.reserve j o.fill).appendOrder o ?_
    rw [State.reserve_pipes]
    exact State.chooseLane_queue hj
  · exact hreleased.overflowOrder o

/-- The lane's own queue is what is left to be rerouted of the queue that stood there (R112). -/
theorem Limited.rerouteAll (h : Limited s) (i : Fin 12) {os : List Order}
    (hos : os.length ≤ Config.maxQueue) : Limited (s.rerouteAll i os) := by
  induction os generalizing s with
  | nil => exact h
  | cons o rest ih =>
    have hrest : rest.length ≤ Config.maxQueue := Nat.le_of_succ_le hos
    exact ih ((h.setPipe i hrest).reroute i o) hrest

theorem Limited.overflowStaged (h : Limited s) (i : Fin 12) : Limited (s.overflowStaged i) := by
  unfold State.overflowStaged
  split
  · exact h
  · exact (h.editPipe i).toOverflow i _

theorem Limited.enterOut (h : Limited s) (i : Fin 12) (st : LaneState) :
    Limited (s.enterOut i st) := by
  have hstored : Limited (s.storeLaneState i st) := h.setLane i _
  have hstaged := (hstored.withdrawStroke i).overflowStaged i
  unfold State.enterOut
  exact (hstaged.rerouteAll i (hstaged.lane_queue i)).place _

theorem Limited.returnTo (h : Limited s) (i : Fin 12) (b : RunState) :
    Limited (s.returnTo i b) := by
  have hback := h.changeLane i b.laneState
  unfold State.returnTo
  dsimp only
  split
  · exact hback.changeLane i _
  · exact hback.advance i

/-! ## Ends of drops (R125 to R130) -/

theorem Limited.enterFault (h : Limited s) (i : Fin 12) : Limited (s.enterFault i) := by
  unfold State.enterFault
  split
  case h_5 | h_6 => exact h
  all_goals exact h.enterOut i _

theorem Limited.recordResult (h : Limited s) (i : Fin 12) (r : DropResult) :
    Limited (s.recordResult i r) := by
  unfold State.recordResult
  dsimp only
  split
  · exact (h.editPipe i).enterFault i
  · exact h.editPipe i

theorem Limited.goOn (h : Limited s) (i : Fin 12) : Limited (s.goOn i) := by
  unfold State.goOn
  split
  · exact h.advance i
  · dsimp only
    split
    · exact (h.advance i).changeLane i _
    · exact h.advance i
  all_goals exact h

theorem Limited.endDrop (h : Limited s) (i : Fin 12) (r : DropResult) : Limited (s.endDrop i r) := by
  unfold State.endDrop
  split
  · exact h
  · next d _ =>
    have hleft : Limited (s.setPipe i { s.pipes[i] with dropping := none }) :=
      h.editPipe i
    have hend : Limited
        (match r with
          | .pass => (s.setPipe i { s.pipes[i] with dropping := none }).commit i d.order.fill
          | .fail => (s.setPipe i { s.pipes[i] with dropping := none }).toOverflow i d.order) := by
      cases r
      · exact hleft.commit i _
      · exact hleft.toOverflow i _
    refine Limited.goOn ?_ i
    split
    · exact hend
    · exact hend.recordResult i r

theorem Limited.jam (h : Limited s) (i : Fin 12) : Limited (s.jam i) := by
  unfold State.jam
  split
  · exact h
  · split
    · exact h
    · exact (h.editPipe i).recordResult i _

/-! ## Lane reports (R107 to R110) -/

theorem Limited.reportThermal (h : Limited s) (i : Fin 12) (c : Thermal) :
    Limited (s.reportThermal i c) := by
  have hclass : Limited (s.setLane i { s.lanes[i] with thermal := c, changed := true }) := h
  unfold State.reportThermal
  split
  · exact h
  · dsimp only
    split
    · exact hclass.changeLane i _
    · exact hclass.changeLane i _
    · exact hclass
    · exact hclass.returnTo i _
    · exact hclass

theorem Limited.binOut (h : Limited s) (i : Fin 12) : Limited (s.binOut i) := by
  have hbin : Limited (s.setLane i { s.lanes[i] with
      binPresent := false, fillAtRemoval := (s.lanes[i]).committed }) := h
  unfold State.binOut
  dsimp only
  split
  case h_1 | h_2 | h_3 => exact hbin.enterOut i _
  all_goals exact hbin

theorem Limited.binIn (h : Limited s) (i : Fin 12) : Limited (s.binIn i) := by
  have hbin : Limited ((s.setLane i
      { s.lanes[i] with binPresent := true, committed := 0 }).testNearlyFull i) :=
    (h.setLane i _).testNearlyFull i
  unfold State.binIn
  dsimp only
  split
  · split
    · exact ((hbin.notify _).setLane i _).changeLane i _
    · exact ((hbin.notify _).setLane i _).returnTo i _
  all_goals exact hbin

theorem Limited.reportBin (h : Limited s) (i : Fin 12) (present : Bool) :
    Limited (s.reportBin i present) := by
  unfold State.reportBin
  split
  · exact h.binOut i
  · exact h.binIn i
  all_goals exact h

theorem Limited.reportJam (h : Limited s) (i : Fin 12) (jam : Bool) :
    Limited (s.reportJam i jam) := by
  unfold State.reportJam
  split
  · exact h.jam i
  · exact h

theorem Limited.considerWaiting (h : Limited s) (i : Fin 12) (waited : Bool) :
    Limited (s.considerWaiting i waited) := by
  unfold State.considerWaiting
  split
  · exact h.consider
  · exact h

theorem Limited.report (h : Limited s) (i : Fin 12) (r : LaneReport) : Limited (s.report i r) :=
  (((h.reportThermal i _).reportBin i _).reportJam i _).considerWaiting i _

end

end Sys2Proof.Machine
end

section
/-! SUPPORT. The operations of the hall keep the limits of strokes and queues (`Limited`): they place frames, and
reach the back room only with the items that they accept. -/

namespace Sys2Proof.Machine

-- One theorem after another: many that wait for the kernel at once take threads and memory.
set_option Elab.async false

section
variable {s : State}

/-! ## Sessions and vouchers -/

/-- No limit speaks of the sessions. -/
theorem Limited.onSession (h : Limited s) (n : Nat) (f : Session → Session) :
    Limited (s.onSession n f) := h

theorem Limited.freeSession (h : Limited s) (n : Nat) : Limited (s.freeSession n) := h

/-- No limit speaks of the corner totals. -/
theorem Limited.onTotals (h : Limited s) (f : Totals → Totals) : Limited (s.onTotals f) := h

theorem Limited.sendResult (h : Limited s) (x : Session) : Limited (s.sendResult x) :=
  (h.place _).freeSession _

theorem Limited.deliver (h : Limited s) (n : Nat) : Limited (s.deliver n) := by
  unfold State.deliver
  split
  · exact h
  · split
    · exact h.sendResult _
    · exact h

theorem Limited.deliverAwaiting (h : Limited s) (st : Fin 8) : Limited (s.deliverAwaiting st) := by
  unfold State.deliverAwaiting
  generalize s.awaiting.filterMap s.session? = xs
  induction xs generalizing s with
  | nil => exact h
  | cons x xs ih =>
    refine ih ?_
    dsimp only
    split
    · exact h.sendResult x
    · exact h

theorem Limited.enterRequest (h : Limited s) (n tag : Nat) : Limited (s.enterRequest n tag) := by
  unfold State.enterRequest
  split
  · exact h
  · refine Limited.place ?_ _
    exact h

theorem Limited.beginRequest (h : Limited s) (n : Nat) : Limited (s.beginRequest n) := by
  unfold State.beginRequest
  refine Limited.enterRequest ?_ n _
  exact h

theorem Limited.startTransfer (h : Limited s) : Limited s.startTransfer := by
  unfold State.startTransfer
  split
  · exact h.beginRequest _
  · exact h

theorem Limited.completeClose (h : Limited s) (n : Nat) : Limited (s.completeClose n) := by
  unfold State.completeClose
  split
  · exact h
  · split
    · exact (h.onSession n _).deliver n
    · split
      · exact ((h.onSession n _).onTotals _).deliver n
      all_goals
        refine Limited.startTransfer ?_
        exact h

theorem Limited.settle (h : Limited s) (n : Nat) : Limited (s.settle n) := by
  unfold State.settle
  split
  · split
    · exact h.completeClose n
    · exact h
  · exact h

theorem Limited.closeSession (h : Limited s) (n : Nat) (d : Disposition) :
    Limited (s.closeSession n d) := (h.onSession n _).settle n

theorem Limited.enterData (h : Limited s) (n tag : Nat) : Limited (s.enterData n tag) := by
  unfold State.enterData
  split
  · exact h
  · exact h.placeAll (lineFrames n tag _)

theorem Limited.enterStatus (h : Limited s) (n tag : Nat) : Limited (s.enterStatus n tag) := by
  refine Limited.place ?_ _
  exact h

theorem Limited.resumePhase (h : Limited s) (p : Phase) (n tag : Nat) :
    Limited (s.resumePhase p n tag) := by
  cases p with
  | request => exact h.enterRequest n tag
  | data => exact h.enterData n tag
  | status => exact h.enterStatus n tag

theorem Limited.stopTransfer (h : Limited s) (c : StopCause) : Limited (s.stopTransfer c) := by
  unfold State.stopTransfer
  split
  · split
    · refine Limited.notify ?_ _
      exact h
    · exact h
  all_goals exact h

theorem Limited.endTransfer (h : Limited s) (n : Nat) (f : Session → Session)
    (g : Totals → Totals) : Limited (s.endTransfer n f g) := by
  have hdelivered := ((h.onSession n f).onTotals g).deliver n
  unfold State.endTransfer
  refine Limited.startTransfer ?_
  exact hdelivered

/-! ## Evaluations -/

theorem Limited.returnItem (h : Limited s) (st : Fin 8) (seq : Nat) (r : ReturnReason) :
    Limited (s.returnItem st seq r) := by
  refine Limited.place (s := s.countReturn r) ?_ _
  exact h

theorem Limited.hold (h : Limited s) (w : Waiting) : Limited (s.hold w) := by
  unfold State.hold
  refine Limited.place ?_ _
  exact h

theorem Limited.makeReferral (h : Limited s) (k : ReferralKind) (n : Nat) (w : Waiting) :
    Limited (s.makeReferral k n w) := by
  unfold State.makeReferral
  refine Limited.hold (Limited.notify ?_ _) w
  exact h

theorem Limited.joinMiss (h : Limited s) (n : Nat) (w : Waiting) : Limited (s.joinMiss n w) := by
  unfold State.joinMiss
  refine Limited.hold ?_ w
  exact h

theorem Limited.requestMiss (h : Limited s) (n : Nat) (w : Waiting) : Limited (s.requestMiss n w) := by
  unfold State.requestMiss
  split
  · split
    · exact h.joinMiss n w
    · exact h.returnItem _ _ _
  · split
    · exact h.makeReferral _ n w
    · exact h.returnItem _ _ _

theorem Limited.requestDecision (h : Limited s) (n : Nat) (e : Entry) (w : Waiting) :
    Limited (s.requestDecision n e w) := by
  unfold State.requestDecision
  split
  · exact h.makeReferral _ n w
  · exact h.returnItem _ _ _

theorem Limited.countAccepted (h : Limited s) (a : Accept) (own bottle : Nat) :
    Limited (s.countAccepted a own bottle) := by
  refine Limited.onTotals ?_ _
  unfold State.countCells
  dsimp only
  split
  · exact h
  · split
    · exact h
    · split <;> exact h

/-- The drop order of an accepted item joins the lane that lane choice took (R41). -/
theorem Limited.accept (h : Limited s) (a : Accept) (x : Session) {i : Fin 12} (f : Nat)
    (hroom : (s.pipes[i]).queue.length < Config.maxQueue) : Limited (s.accept a x i f) := by
  have hadded : Limited { s.sessionAdd a x with lastHandle := s.nextHandle } := h
  exact ((hadded.appendOrder _ hroom).countAccepted a _ _).place _

theorem Limited.fromCap (h : Limited s) (a : Accept) : Limited (s.fromCap a) := by
  unfold State.fromCap
  split
  · exact h
  · split
    · exact h.returnItem _ _ _
    · split
      · exact h.returnItem _ _ _
      · next i hi =>
        refine (h.reserve i _).accept a _ _ ?_
        rw [State.reserve_pipes]
        exact State.chooseLane_queue hi

theorem Limited.fromRights (h : Limited s) (ask : Asking) (n : Nat) (e : Entry) (w : Waiting) :
    Limited (s.fromRights ask n e w) := by
  unfold State.fromRights
  split
  · exact h.returnItem _ _ _
  · exact h.returnItem _ _ _
  · split
    · exact h.requestDecision n e w
    · exact h.returnItem _ _ _
  · exact h.fromCap _

theorem Limited.fromLookup (h : Limited s) (ask : Asking) (n : Nat) (w : Waiting) :
    Limited (s.fromLookup ask n w) := by
  unfold State.fromLookup
  split
  · split
    · exact h.requestMiss n w
    · exact h.returnItem _ _ _
  · split
    · exact h.returnItem _ _ _
    · exact h.fromRights ask n _ _

theorem Limited.fromCode (h : Limited s) (st : Fin 8) (n : Nat) (r : Report) :
    Limited (s.fromCode st n r) := by
  unfold State.fromCode
  split
  · exact h.returnItem _ _ _
  · exact h.fromLookup _ _ _

theorem Limited.fromSession (h : Limited s) (st : Fin 8) (r : Report) :
    Limited (s.fromSession st r) := by
  have hopened : Limited (s.openSession st) := h
  unfold State.fromSession
  split
  · split
    · exact (h.onSession _ _).fromCode st _ r
    · exact h.returnItem _ _ _
  · split
    · exact (hopened.onSession _ _).fromCode st _ r
    · exact h.returnItem _ _ _

theorem Limited.evaluate (h : Limited s) (st : Fin 8) (r : Report) : Limited (s.evaluate st r) := by
  unfold State.evaluate
  split
  · split
    · exact h
    · split
      · exact h.returnItem _ _ _
      · exact h.fromSession st r
  · split
    · exact h
    · exact h.returnItem _ _ _
  all_goals exact h

/-! ## The Referral List -/

/-- No limit speaks of the counts of held items. -/
theorem Limited.unhold (h : Limited s) (w : Waiting) : Limited (s.unhold w) := h

/-- No limit speaks of the Referral List. -/
theorem Limited.freeReferral (h : Limited s) (n : Nat) : Limited (s.freeReferral n) := h

theorem Limited.endItems (h : Limited s) {verdict : Waiting → State → State}
    (hverdict : ∀ w {t : State}, Limited t → Limited (verdict w t)) (ws : List Waiting) :
    Limited (s.endItems verdict ws) := by
  induction ws generalizing s with
  | nil => exact h
  | cons w ws ih => exact ih (((hverdict w h).unhold w).settle _)

theorem Limited.removeWaiting (h : Limited s) (gone : Waiting → Bool) (cause : EndedCause) :
    Limited (s.removeWaiting gone cause) := by
  unfold State.removeWaiting
  refine Limited.placeAll ?_ _
  exact h

theorem Limited.removeStation (h : Limited s) (st : Fin 8) : Limited (s.removeStation st) := by
  refine Limited.removeWaiting ?_ _ _
  generalize s.waitingItems.filter (fun w => w.station == st) = ws
  induction ws generalizing s with
  | nil => exact h
  | cons w ws ih => exact ih (h.unhold w)

theorem Limited.leaveService (h : Limited s) (st : Fin 8) : Limited (s.leaveService st) := by
  have hremoved := h.removeStation st
  unfold State.leaveService
  dsimp only
  split
  · split
    · exact hremoved.closeSession _ _
    · exact hremoved.settle _
  · exact hremoved

/-! ## Stations -/

/-- No limit speaks of the records of the stations. -/
theorem Limited.setStation (h : Limited s) (st : Fin 8) (x : Station) : Limited (s.setStation st x) := h

theorem Limited.countAnnounce (h : Limited s) (st : Fin 8) (k : StationKind) :
    Limited (s.countAnnounce st k) := by
  unfold State.countAnnounce
  dsimp only
  split
  · exact h.setStation st _
  · split
    · exact h.setStation st _
    · exact (h.setStation st _).notify _

theorem Limited.lose (h : Limited s) (st : Fin 8) (loss : LossCause) (cause : ChangeCause)
    (k : Option StationKind) : Limited (s.lose st loss cause k) :=
  ((h.setStation st _).leaveService st).notify _

theorem Limited.hearAnnounce (h : Limited s) (st : Fin 8) (k : StationKind) :
    Limited (s.hearAnnounce st k) := by
  unfold State.hearAnnounce
  dsimp only
  split
  · exact h.setStation st _
  · exact h.lose st _ _ _

theorem Limited.enterMode (h : Limited s) (st : Fin 8) (mode : StationState) :
    Limited (s.enterMode st mode) := (h.setStation st _).place _

theorem Limited.turnOff (h : Limited s) (st : Fin 8) : Limited (s.turnOff st) := by
  unfold State.turnOff
  dsimp only
  refine Limited.place ?_ _
  split
  case h_2 | h_3 | h_4 => exact (h.setStation st _).leaveService st
  all_goals exact h

end

end Sys2Proof.Machine
end

section
/-! SUPPORT. The commands of the links, of the tables and of the hall keep the limits of strokes and queues
(`LimitedNext`). -/

namespace Sys2Proof.Machine

-- One theorem after another: many that wait for the kernel at once take threads and memory.
set_option Elab.async false

/-- An outcome is a next state within the limits. -/
def LimitedNext (o : Host.Outcome State Fault Refusal) : Prop := ∃ t, o = .next t ∧ Limited t

theorem Limited.live {f : State → State} {s : State} (h : Limited s) (hf : Limited (f s)) :
    LimitedNext (live f s) := by
  cases hr : s.resetAsserted
  · exact ⟨f s, live_released hr, hf⟩
  · exact ⟨s, live_asserted hr, h⟩

/-- SET PARAMETER leaves the budget to the Stroke Budget (R146, R178). -/
theorem Parameters.set_budget {n v : Nat} {p q : Parameters} {bs : List Byte}
    (hset : p.set n v = some (q, bs)) : q.budget = p.budget := by
  unfold Parameters.set at hset
  split at hset
  case h_8 => cases hset
  case h_3 =>
    obtain ⟨d, -, hd⟩ := Option.map_eq_some_iff.mp hset
    cases hd
    rfl
  all_goals
    cases hset
    rfl

section
variable {s : State} (h : Limited s) (tag : Byte)
include h

/-! ## The links (R171 to R173) -/

theorem execFrameGapTimeout_limited (l : Link) : LimitedNext (execFrameGapTimeout l s) := by
  refine h.live (h.onPort l ?_)
  unfold Port.dropGap
  split <;> exact id

theorem execFrameSendStart_limited (l : Link) : LimitedNext (execFrameSendStart l s) := by
  refine h.live (h.onPort l ?_)
  unfold Port.startSending
  split <;> exact id

theorem execSendCollision_limited (l : Link) : LimitedNext (execSendCollision l s) := by
  have hdrawn : Limited { s with draws := s.draws + 1 } := h
  refine h.live ?_
  dsimp only
  split
  · refine hdrawn.onPort l ?_
    cases l <;> exact id
  all_goals exact h

theorem execBackoffExpiry_limited (l : Link) : LimitedNext (execBackoffExpiry l s) := by
  refine h.live (h.onPort l ?_)
  dsimp only
  split <;> exact id

theorem Limited.startReplyTimer (n : Nat) : Limited (s.startReplyTimer n) := by
  unfold State.startReplyTimer
  split
  · split <;> exact h
  all_goals exact h

theorem Limited.startDropTimer (n lane : Nat) : Limited (s.startDropTimer n lane) := by
  unfold State.startDropTimer
  split
  · exact h
  · next i _ =>
    split
    · split
      · exact h.editPipe i
      · exact h
    · exact h

theorem Limited.startTimers (q : Queued) : Limited (s.startTimers q) := by
  unfold State.startTimers
  split
  · exact h.startReplyTimer _
  · exact h.startReplyTimer _
  · exact h.startReplyTimer _
  · exact h.startDropTimer _ _
  all_goals exact h

/-- A sent frame leaves its queue (R172). -/
theorem execFrameSent_limited (l : Link) : LimitedNext (execFrameSent l s) := by
  refine h.live ?_
  dsimp only
  split
  · next q rest _ hqueue =>
    refine (h.onPort l fun hlength => ?_).startTimers q
    rw [hqueue] at hlength
    exact Nat.le_of_succ_le hlength
  · exact h

theorem Limited.linesPlaced (n : Nat) : Limited (s.linesPlaced n) := by
  unfold State.linesPlaced
  split
  · split <;> exact h
  · exact h

/-- A held frame takes a place that its queue has (R173). -/
theorem execHeldFramePlaced_limited (l : Link) : LimitedNext (execHeldFramePlaced l s) := by
  refine h.live ?_
  split
  · next q rest _ =>
    split
    · next hroom =>
      have hplaced : ((s.port l).queue ++ [q]).length ≤ capacityOf l := by simpa using hroom
      exact (h.onPort l fun _ => hplaced).linesPlaced _
    · exact h
  · exact h

/-! ## Tables and keys -/

theorem execCommandUnknown_limited (code : Nat) : LimitedNext (execCommandUnknown tag code s) := by
  refine h.live ?_
  split
  · exact h.reply _ _ _ _
  · exact h.refuse _ _ _

theorem Limited.loadEntry (e : Entry) : Limited (s.loadEntry e).2 := by
  rcases State.loadEntry_cases e s with hload | hload <;> rw [hload] <;> exact h

theorem execLoadArticle_limited (r : RawEntry) : LimitedNext (execLoadArticle tag r s) := by
  refine h.live ?_
  split
  · exact h.reply _ _ _ _
  · next e _ =>
    have hload := h.loadEntry e
    split
    all_goals
      next t ht =>
      rw [ht] at hload
      exact hload.reply _ _ _ _

/-- No limit speaks of the Article Table. -/
theorem Limited.withArticles (es : List Entry) : Limited { s with articles := es } := h

theorem execRemoveArticle_limited (n span : Nat) :
    LimitedNext (execRemoveArticle tag n span s) := by
  refine h.live ?_
  dsimp only
  split
  · exact h.reply _ _ _ _
  · split
    · split
      · exact h.reply _ _ _ _
      · exact (h.withArticles _).reply _ _ _ _
    · exact h.reply _ _ _ _

theorem Limited.answerEntry (e : Option Entry) : Limited (s.answerEntry tag e) := by
  cases e with
  | none => exact h.refuse _ _ _
  | some e => exact h.reply _ _ _ _

theorem execReadArticleKey_limited (n span : Nat) :
    LimitedNext (execReadArticleKey tag n span s) := by
  refine h.live ?_
  split
  · exact h.refuse _ _ _
  · split
    · exact h.answerEntry tag _
    · exact h.refuse _ _ _

theorem execReadArticleLookup_limited (n : Nat) :
    LimitedNext (execReadArticleLookup tag n s) := by
  refine h.live ?_
  split
  · exact h.answerEntry tag _
  · exact h.refuse _ _ _

theorem execClearTable_limited : LimitedNext (execClearTable tag s) := by
  refine h.live ?_
  split
  · exact (h.withArticles []).reply _ _ _ _
  · exact h.reply _ _ _ _

/-- No limit speaks of the Scheme Key List. -/
theorem Limited.withKeys (keys : Vector (Option SchemeKey) 4) : Limited { s with keys := keys } := h

theorem execLoadKey_limited (a b d : Nat) : LimitedNext (execLoadKey tag a b d s) := by
  refine h.live ?_
  split
  · exact h.refuse _ _ _
  · split
    · split
      · exact (h.withKeys _).reply _ _ _ _
      · exact h.refuse _ _ _
    · exact h.refuse _ _ _

theorem execClearKey_limited (a : Nat) : LimitedNext (execClearKey tag a s) := by
  refine h.live ?_
  split
  · exact h.refuse _ _ _
  · split
    · exact (h.withKeys _).reply _ _ _ _
    · exact h.refuse _ _ _

/-- No limit speaks of the Deposit Class Table. -/
theorem Limited.withClassValues (values : Vector Nat 16) :
    Limited { s with classValues := values } := h

theorem execSetClassValue_limited (c v : Nat) : LimitedNext (execSetClassValue tag c v s) := by
  refine h.live ?_
  split
  · split
    · exact (h.withClassValues _).reply _ _ _ _
    · exact h.refuse _ _ _
  · exact h.refuse _ _ _

/-! ## Counters and parameters -/

theorem execReadCounters_limited (g : Nat) : LimitedNext (execReadCounters tag g s) := by
  refine h.live ?_
  split
  · exact h.reply _ _ _ _
  · exact h.refuse _ _ _

theorem Limited.clearGroup (g : CounterGroup) : Limited (s.clearGroup g) := by
  cases g <;> exact h

theorem execReadAndClear_limited (g : Nat) : LimitedNext (execReadAndClear tag g s) := by
  refine h.live ?_
  split
  · exact (h.clearGroup _).reply _ _ _ _
  · exact h.refuse _ _ _

/-- The budget is set only while no record stands against it (R146). -/
theorem Limited.setStroke (k : StrokeParameter) (v : Nat) : Limited (s.setStroke tag k v) := by
  unfold State.setStroke
  split
  · next hempty =>
    have hset (p : Parameters) : Limited { s with params := p } := by
      refine h.of_strokes ?_
      simp [StrokesOk, State.strokeSum, List.isEmpty_iff.1 hempty]
    cases k with
    | budget => exact (hset _).reply _ _ _ _
    | window => exact (hset _).reply _ _ _ _
  · exact h.refuse _ _ _

theorem execSetParameter_limited (n v : Nat) : LimitedNext (execSetParameter tag n v s) := by
  refine h.live ?_
  split
  · exact h.setStroke tag _ v
  · exact h.setStroke tag _ v
  · split
    · next p _ hset =>
      have hparams : Limited { s with params := p } := by
        obtain ⟨hstrokes, -⟩ := id h
        refine h.of_strokes ?_
        unfold StrokesOk at hstrokes ⊢
        rwa [Parameters.set_budget hset]
      exact hparams.reply _ _ _ _
    · exact h.refuse _ _ _

/-! ## Stations -/

theorem execAnnounce_limited (src : Nat) (payload : List Byte) :
    LimitedNext (execAnnounce src payload s) := by
  refine h.live ?_
  split
  · split
    · exact h.countAnnounce _ _
    · exact h.hearAnnounce _ _
    · exact h.hearAnnounce _ _
    · exact h.hearAnnounce _ _
    all_goals exact h
  · exact h

theorem execSilenceExpiry_limited (n : Nat) : LimitedNext (execSilenceExpiry n s) := by
  refine h.live ?_
  split
  · split
    · split
      · exact h.lose _ _ _ _
      · exact h
    · exact h
  · exact h

theorem execStationGoListen_limited (n : Nat) : LimitedNext (execStationGoListen tag n s) := by
  refine h.live ?_
  split
  · exact h.refuse _ _ _
  · next st _ =>
    dsimp only
    split
    case h_1 | h_2 => exact (h.setStation st _).reply _ _ _ _
    all_goals exact h.refuse _ _ _

theorem execStationGoOperate_limited (n : Nat) : LimitedNext (execStationGoOperate tag n s) := by
  refine h.live ?_
  split
  · exact h.refuse _ _ _
  · next st _ =>
    split
    case h_1 | h_2 => exact ((h.enterMode st _).deliverAwaiting st).reply _ _ _ _
    all_goals exact h.refuse _ _ _

theorem execStationGoPause_limited (n : Nat) : LimitedNext (execStationGoPause tag n s) := by
  refine h.live ?_
  split
  · exact h.refuse _ _ _
  · next st _ =>
    split
    · exact (h.enterMode st _).reply _ _ _ _
    all_goals exact h.refuse _ _ _

theorem execStationGoOff_limited (n : Nat) : LimitedNext (execStationGoOff tag n s) := by
  refine h.live ?_
  split
  · exact h.refuse _ _ _
  · split
    · exact h.reply _ _ _ _
    · exact (h.turnOff _).reply _ _ _ _

theorem execReadStatusStation_limited (n : Nat) :
    LimitedNext (execReadStatusStation tag n s) := by
  refine h.live ?_
  split
  · exact h.refuse _ _ _
  · exact (h.setStation _ _).reply _ _ _ _

/-! ## Items and referrals -/

theorem execItemReport_limited (src : Nat) (payload : List Byte) :
    LimitedNext (execItemReport src payload s) := by
  refine h.live ?_
  split
  · exact h.evaluate _ _
  · exact h

theorem execItemWithdraw_limited (src : Nat) (payload : List Byte) :
    LimitedNext (execItemWithdraw src payload s) := by
  refine h.live ?_
  split
  · split
    · exact ((h.unhold _).removeWaiting _ _).settle _
    · exact h
  · exact h

theorem execReferralExpiry_limited (n : Nat) : LimitedNext (execReferralExpiry n s) := by
  refine h.live ?_
  split
  · split
    · exact ((h.endItems (fun _ _ ht => ht.returnItem _ _ _) _).freeReferral n).notify _
    · exact h
  · exact h

theorem Limited.lateEntry (e : Entry) : Limited (s.lateEntry tag e) := by
  have hload := h.loadEntry e
  unfold State.lateEntry
  split
  all_goals
    next t ht =>
    rw [ht] at hload
    exact hload.reply _ _ _ _

theorem Limited.answerMiss (r : Referral) (e : Entry) : Limited (s.answerMiss tag r e) := by
  have hload := h.loadEntry e
  unfold State.answerMiss
  split
  · next t ht =>
    rw [ht] at hload
    exact hload.refuse _ _ _
  all_goals
    next t ht =>
    rw [ht] at hload
    exact ((hload.freeReferral _).endItems (fun _ _ hu => hu.fromLookup _ _ _) _).reply _ _ _ _

theorem execReferralAnswerEntry_limited (n : Nat) (e : RawEntry) :
    LimitedNext (execReferralAnswerEntry tag n e s) := by
  refine h.live ?_
  split
  · split
    · exact h.lateEntry tag _
    · split
      · exact h.refuse _ _ _
      · exact h.answerMiss tag _ _
  · exact h.refuse _ _ _

theorem Limited.resolve (r : Referral) {verdict : Waiting → State → State}
    (hverdict : ∀ w {t : State}, Limited t → Limited (verdict w t)) :
    Limited (s.resolve tag r verdict) :=
  ((h.freeReferral _).endItems hverdict _).reply _ _ _ _

theorem execReferralAnswerDecide_limited (n v c r : Nat) :
    LimitedNext (execReferralAnswerDecide tag n v c r s) := by
  refine h.live ?_
  split
  · split
    · exact h.refuse _ _ _
    · split
      · exact h.resolve tag _ fun _ _ ht => ht.returnItem _ _ _
      · split
        · exact h.resolve tag _ fun _ _ ht => ht.fromCap _
        · exact h.refuse _ _ _
  · exact h.refuse _ _ _

/-! ## Sessions -/

theorem execSessionClose_limited (src : Nat) (payload : List Byte) :
    LimitedNext (execSessionClose src payload s) := by
  refine h.live ?_
  split
  · split
    case h_3 => exact h
    all_goals
      split
      · exact h.closeSession _ _
      · exact h
  · exact h

theorem execIdleExpiry_limited (n : Nat) : LimitedNext (execIdleExpiry n s) := by
  refine h.live ?_
  split
  · split
    · split
      · exact h.closeSession _ _
      · exact h
    · exact h
  · exact h

theorem execReadSessionRecord_limited (n : Nat) :
    LimitedNext (execReadSessionRecord tag n s) := by
  refine h.live ?_
  split
  · exact h.refuse _ _ _
  · split
    · exact h.refuse _ _ _
    · exact h.reply _ _ _ _

theorem execReadSessionLines_limited (n k : Nat) :
    LimitedNext (execReadSessionLines tag n k s) := by
  refine h.live ?_
  split
  · exact h.refuse _ _ _
  · split
    · exact h.refuse _ _ _
    · exact h.reply _ _ _ _

theorem execDiscardSession_limited (n : Nat) : LimitedNext (execDiscardSession tag n s) := by
  refine h.live ?_
  split
  · exact h.refuse _ _ _
  · split
    · exact h.refuse _ _ _
    · split
      · exact (h.freeSession n).reply _ _ _ _
      · exact h.refuse _ _ _

/-! ## The Voucher Unit -/

theorem execRequestAccepted_limited (src : Nat) (payload : List Byte) :
    LimitedNext (execRequestAccepted src payload s) := by
  refine h.live ?_
  split
  · split
    · split
      · exact h.enterData _ _
      · exact h.stopTransfer _
    · exact h
  · exact h

theorem execVoucherStatus_limited (src : Nat) (payload : List Byte) :
    LimitedNext (execVoucherStatus src payload s) := by
  refine h.live ?_
  split
  · split
    · split
      · exact h.stopTransfer _
      · exact h.endTransfer _ _ _
    · exact h
  · exact h

theorem execReplyTimerExpiry_limited : LimitedNext (execReplyTimerExpiry s) := by
  refine h.live ?_
  split
  · split
    · exact h.stopTransfer _
    · exact h
  · exact h

theorem Limited.onStopped (n : Nat) {act : Phase → Nat → State → State}
    (hact : ∀ p g, Limited (act p g s)) : Limited (s.onStopped tag n act) := by
  unfold State.onStopped
  split
  · exact h.refuse _ _ _
  · split
    · split
      · exact hact _ _
      · exact h.refuse _ _ _
    all_goals exact h.refuse _ _ _

theorem execVoucherControlResume_limited (n : Nat) :
    LimitedNext (execVoucherControlResume tag n s) :=
  h.live (h.onStopped tag n fun p g => (h.resumePhase p n g).reply _ _ _ _)

theorem execVoucherControlRestart_limited (n : Nat) :
    LimitedNext (execVoucherControlRestart tag n s) :=
  h.live (h.onStopped tag n fun _ _ => (h.beginRequest n).reply _ _ _ _)

theorem execVoucherControlCancel_limited (n : Nat) :
    LimitedNext (execVoucherControlCancel tag n s) :=
  h.live (h.onStopped tag n fun _ _ => (h.endTransfer n _ _).reply _ _ _ _)

theorem execVoucherControlAbort_limited (n : Nat) :
    LimitedNext (execVoucherControlAbort tag n s) := by
  refine h.live ?_
  split
  · exact h.refuse _ _ _
  · split
    · split
      · refine (Limited.stopTransfer ?_ _).reply _ _ _ _
        split
        · exact h.onPort .front id
        · exact h
      · exact h.refuse _ _ _
    all_goals exact h.refuse _ _ _

/-! ## Reads that are answered by a REPLY only -/

theorem execReadKeys_limited : LimitedNext (execReadKeys tag s) := h.live (h.reply _ _ _ _)

theorem execReadClassValues_limited : LimitedNext (execReadClassValues tag s) := h.live (h.reply _ _ _ _)

theorem execReadReferrals_limited : LimitedNext (execReadReferrals tag s) := h.live (h.reply _ _ _ _)

theorem execReadSessionSummary_limited : LimitedNext (execReadSessionSummary tag s) := h.live (h.reply _ _ _ _)

theorem execReadVoucher_limited : LimitedNext (execReadVoucher tag s) := h.live (h.reply _ _ _ _)

theorem execReadBudget_limited : LimitedNext (execReadBudget tag s) := h.live (h.reply _ _ _ _)

theorem execReadParameters_limited : LimitedNext (execReadParameters tag s) := h.live (h.reply _ _ _ _)

end

end Sys2Proof.Machine
end

section
/-! PROOFS. Every command keeps the limits of strokes and queues: those of lanes, timers and resets here, and with
them every step (O55). -/

namespace Sys2Proof.Machine

-- One theorem after another: many that wait for the kernel at once take threads and memory.
set_option Elab.async false

section
variable {s : State} (h : Limited s) (tag : Byte)
include h

/-! ## Timers and lane drivers -/

theorem execDropDone_limited (src : Nat) (payload : List Byte) :
    LimitedNext (execDropDone src payload s) := by
  refine h.live ?_
  split
  · split
    · split
      · exact h.endDrop _ _
      · exact h
    · exact h
  · exact h

theorem execDropExpiry_limited (n : Nat) : LimitedNext (execDropExpiry n s) := by
  refine h.live ?_
  split
  · split
    · split
      · split
        · exact h.endDrop _ _
        · exact h
      · exact h
    · exact h
  · exact h

/-- The record that leaves the list takes its weight from the sum (R143). -/
theorem execStrokeRecordExpiry_limited : LimitedNext (execStrokeRecordExpiry s) := by
  refine h.live ?_
  split
  · next r rest hstrokes =>
    split
    · have hrest : Limited { s with strokes := rest } := by
        obtain ⟨hsum, -⟩ := id h
        refine h.of_strokes ?_
        simp only [StrokesOk, State.strokeSum, hstrokes, List.map_cons, List.sum_cons] at hsum ⊢
        omega
      exact hrest.consider
    · exact h
  · exact h

theorem execLaneReport_limited (src : Nat) (payload : List Byte) :
    LimitedNext (execLaneReport src payload s) := by
  refine h.live ?_
  split
  · exact h.report _ _
  · exact h

theorem Limited.feedLevel (level : Bool) : Limited (s.feedLevel level) := by
  have hlevel : Limited { s with feedLine := level, feedFault := level } := h
  unfold State.feedLevel
  dsimp only
  split
  · exact h
  · split
    · exact hlevel.notify _
    · exact (hlevel.notify _).consider

/-! ## Lane commands -/

theorem execSetLane_limited (n k r c f w : Nat) : LimitedNext (execSetLane tag n k r c f w s) := by
  refine h.live ?_
  split
  · dsimp only
    split
    · split
      · exact h.refuse _ _ _
      · exact ((h.setLane _ _).testNearlyFull _).reply _ _ _ _
    · exact h.refuse _ _ _
  · exact h.refuse _ _ _

theorem execLaneGoOpen_limited (n : Nat) : LimitedNext (execLaneGoOpen tag n s) := by
  refine h.live ?_
  split
  · exact h.refuse _ _ _
  · dsimp only
    split
    · split
      · refine Limited.reply ?_ _ _ _ _
        split
        · exact h.changeLane _ _
        · exact h.returnTo _ _
      · exact h.refuse _ _ _
    · exact (h.returnTo _ _).reply _ _ _ _
    all_goals exact h.refuse _ _ _

theorem execLaneGoDrain_limited (n : Nat) : LimitedNext (execLaneGoDrain tag n s) := by
  refine h.live ?_
  split
  · exact h.refuse _ _ _
  · split
    · exact (h.changeLane _ _).reply _ _ _ _
    · exact (h.setLane _ _).reply _ _ _ _
    all_goals exact h.refuse _ _ _

theorem execLaneGoClearFault_limited (n : Nat) :
    LimitedNext (execLaneGoClearFault tag n s) := by
  refine h.live ?_
  split
  · exact h.refuse _ _ _
  · next i _ =>
    split
    · split
      · exact h.refuse _ _ _
      · exact ((h.editPipe i).changeLane i _).reply _ _ _ _
    all_goals exact h.refuse _ _ _

theorem execMaskLane_limited (n m : Nat) : LimitedNext (execMaskLane tag n m s) := by
  refine h.live ?_
  split
  · exact (h.setLane _ _).reply _ _ _ _
  · exact h.refuse _ _ _

theorem execOverflowEmptied_limited : LimitedNext (execOverflowEmptied tag s) := by
  have hempty : Limited { s with overflow := ⟨0, 0, false⟩ } := h
  exact h.live (hempty.reply _ _ _ _)

theorem execReadStatusLane_limited (n : Nat) : LimitedNext (execReadStatusLane tag n s) := by
  refine h.live ?_
  split
  · exact h.reply _ _ _ _
  · split
    · exact h.refuse _ _ _
    · exact (h.setLane _ _).reply _ _ _ _

/-! ## Resets (R148, R179, R180) -/

/-- The ports are emptied. -/
theorem execHardwareReset_limited : LimitedNext (execHardwareReset s) := by
  obtain ⟨hstrokes, -, hqueues⟩ := h
  exact ⟨_, rfl, hstrokes, ⟨Nat.zero_le _, Nat.zero_le _⟩, hqueues⟩

omit h in
theorem reset_limited : Limited State.reset := by
  obtain ⟨-, hstrokes, hports, hqueues, -⟩ := resetKeepsEveryLaw
  exact ⟨hstrokes, hports, hqueues⟩

theorem execResetRelease_limited : LimitedNext (execResetRelease s) := by
  have hreleased : Limited s.released := reset_limited
  refine ⟨_, rfl, ?_⟩
  split
  · split
    · exact hreleased.notify _
    · exact hreleased
  · exact h

theorem Limited.resetReferrals : Limited s.resetReferrals := by
  have hreturned : Limited (s.waitingItems.foldl (fun t w => t.returnWaiting .reset w) s) := by
    generalize s.waitingItems = ws
    induction ws generalizing s with
    | nil => exact h
    | cons w ws ih => exact ih (h.returnItem _ _ _)
  exact hreturned

/-- Frames that are given up were held, and no queue loses its place. -/
theorem Limited.resetVoucher : Limited s.resetVoucher := h

theorem Limited.emptyPipe (i : Fin 12) : Limited (s.emptyPipe i) := by
  have hempty : Limited (s.setPipe i Pipeline.reset) := h.setPipe i (Nat.zero_le _)
  unfold State.emptyPipe
  generalize (s.pipes[i]).orders = os
  generalize s.setPipe i Pipeline.reset = t at hempty
  induction os generalizing t with
  | nil => exact hempty
  | cons o os ih => exact ih _ (hempty.toOverflow i o)

theorem Limited.closeLane (i : Fin 12) : Limited (s.closeLane i) := by
  unfold State.closeLane
  split
  · exact h
  · exact (h.setLane i _).place _

/-- An operation that keeps the limits may be done for one lane after another. -/
theorem Limited.foldLanes {f : State → Fin 12 → State}
    (hf : ∀ {t : State} (i : Fin 12), Limited t → Limited (f t i)) (is : List (Fin 12)) :
    Limited (is.foldl f s) := by
  induction is generalizing s with
  | nil => exact h
  | cons i is ih => exact ih (hf i h)

theorem Limited.resetLanes : Limited s.resetLanes := by
  have hback : Limited { s with back := s.back.giveUp Frame.ofPipeline } := h
  exact ((hback.foldLanes (fun i ht => ht.emptyPipe i) allLanes).foldLanes
    (fun i ht => ht.closeLane i) allLanes).foldLanes (fun i ht => ht.testNearlyFull i) allLanes

/-- No stroke record is left (R148). -/
theorem Limited.withoutStrokes (stations : Vector Station 8) :
    Limited { s with strokes := [], stations := stations } :=
  h.of_strokes (Nat.zero_le _)

theorem execCornerReset_limited : LimitedNext (execCornerReset tag s) := by
  have hsessions : Limited s.resetReferrals.resetSessions := h.resetReferrals
  have hlanes := hsessions.resetVoucher.resetLanes
  refine h.live (Limited.reply ?_ _ _ _ _)
  unfold State.resetCorner
  generalize State.resetLanes _ = t at hlanes ⊢
  exact hlanes.withoutStrokes _

/-! ## Every step -/

theorem exec_limited (c : Instr) : LimitedNext (exec c s) := by
  cases c with
  | hardwareReset => exact execHardwareReset_limited h
  | resetRelease => exact execResetRelease_limited h
  | feedfltAssert => exact ⟨_, rfl, h.feedLevel true⟩
  | feedfltClear => exact ⟨_, rfl, h.feedLevel false⟩
  | frameGapTimeout l => exact execFrameGapTimeout_limited h l
  | frameDiscard => exact h.live (f := fun s => s) h
  | frameSendStart l => exact execFrameSendStart_limited h l
  | sendCollision l => exact execSendCollision_limited h l
  | backoffExpiry l => exact execBackoffExpiry_limited h l
  | frameSent l => exact execFrameSent_limited h l
  | heldFramePlaced l => exact execHeldFramePlaced_limited h l
  | announce src p => exact execAnnounce_limited h src p
  | silenceExpiry n => exact execSilenceExpiry_limited h n
  | itemReport src p => exact execItemReport_limited h src p
  | itemWithdraw src p => exact execItemWithdraw_limited h src p
  | sessionClose src p => exact execSessionClose_limited h src p
  | idleExpiry n => exact execIdleExpiry_limited h n
  | referralExpiry n => exact execReferralExpiry_limited h n
  | requestAccepted src p => exact execRequestAccepted_limited h src p
  | voucherStatus src p => exact execVoucherStatus_limited h src p
  | replyTimerExpiry => exact execReplyTimerExpiry_limited h
  | dropDone src p => exact execDropDone_limited h src p
  | dropExpiry n => exact execDropExpiry_limited h n
  | strokeRecordExpiry => exact execStrokeRecordExpiry_limited h
  | laneReport src p => exact execLaneReport_limited h src p
  | commandUnknown tag code => exact execCommandUnknown_limited h tag code
  | loadArticle tag r => exact execLoadArticle_limited h tag r
  | removeArticle tag n span => exact execRemoveArticle_limited h tag n span
  | readArticleKey tag n span => exact execReadArticleKey_limited h tag n span
  | readArticleLookup tag n => exact execReadArticleLookup_limited h tag n
  | clearTable tag => exact execClearTable_limited h tag
  | loadKey tag a b d => exact execLoadKey_limited h tag a b d
  | clearKey tag a => exact execClearKey_limited h tag a
  | setClassValue tag c v => exact execSetClassValue_limited h tag c v
  | referralAnswerEntry tag n r => exact execReferralAnswerEntry_limited h tag n r
  | referralAnswerDecide tag n v c r => exact execReferralAnswerDecide_limited h tag n v c r
  | readSessionRecord tag n => exact execReadSessionRecord_limited h tag n
  | readSessionLines tag n k => exact execReadSessionLines_limited h tag n k
  | discardSession tag n => exact execDiscardSession_limited h tag n
  | voucherControlResume tag n => exact execVoucherControlResume_limited h tag n
  | voucherControlRestart tag n => exact execVoucherControlRestart_limited h tag n
  | voucherControlCancel tag n => exact execVoucherControlCancel_limited h tag n
  | voucherControlAbort tag n => exact execVoucherControlAbort_limited h tag n
  | setLane tag l k r c f w => exact execSetLane_limited h tag l k r c f w
  | laneGoOpen tag n => exact execLaneGoOpen_limited h tag n
  | laneGoDrain tag n => exact execLaneGoDrain_limited h tag n
  | laneGoClearFault tag n => exact execLaneGoClearFault_limited h tag n
  | maskLane tag l m => exact execMaskLane_limited h tag l m
  | overflowEmptied tag => exact execOverflowEmptied_limited h tag
  | readStatusStation tag n => exact execReadStatusStation_limited h tag n
  | readStatusLane tag n => exact execReadStatusLane_limited h tag n
  | readCounters tag g => exact execReadCounters_limited h tag g
  | readAndClear tag g => exact execReadAndClear_limited h tag g
  | stationGoListen tag n => exact execStationGoListen_limited h tag n
  | stationGoOperate tag n => exact execStationGoOperate_limited h tag n
  | stationGoPause tag n => exact execStationGoPause_limited h tag n
  | stationGoOff tag n => exact execStationGoOff_limited h tag n
  | setParameter tag n v => exact execSetParameter_limited h tag n v
  | setParameterStroke tag k v => exact h.live (h.setStroke tag k v)
  | cornerReset tag => exact execCornerReset_limited h tag
  | readKeys tag => exact execReadKeys_limited h tag
  | readClassValues tag => exact execReadClassValues_limited h tag
  | readReferrals tag => exact execReadReferrals_limited h tag
  | readSessionSummary tag => exact execReadSessionSummary_limited h tag
  | readVoucher tag => exact execReadVoucher_limited h tag
  | readBudget tag => exact execReadBudget_limited h tag
  | readParameters tag => exact execReadParameters_limited h tag

theorem Limited.tick : Limited s.tick := by
  unfold State.tick
  dsimp only
  split <;> exact h

end

theorem step_limited {s t : State} (h : Limited s) (hstep : step s = .next t) : Limited t := by
  rcases step_cases hstep with ⟨c, rest, hexec⟩ | rfl
  · have hrest : Limited { s with pending := rest } := h
    obtain ⟨u, hu, hlimited⟩ := exec_limited hrest c
    rw [hexec] at hu
    cases hu
    exact hlimited
  · exact h.tick

/-- Settles O55: strokes join the list by grants that the budget has room for, frames join a queue where it has
room, and orders join the lane that lane choice took. -/
theorem stepKeepsTheBudgetAndTheQueues : Obligations.StepKeepsTheBudgetAndTheQueues := by
  unfold Obligations.StepKeepsTheBudgetAndTheQueues
  exact fun s t hstrokes hports hqueues hstep => step_limited ⟨hstrokes, hports, hqueues⟩ hstep

end Sys2Proof.Machine
end
